-- ==== Sys2Proof/Word.lean ====
section
/-! DEFINITION. The machine's words: 32-bit words, bytes and register numbers (spec R3, R16). -/

namespace Sys2Proof

/-- A word is 32 bits (R3). -/
abbrev Word := BitVec 32

/-- A byte is 8 bits (R22). -/
abbrev Byte := BitVec 8

/-- A register number field: rd, rs1 or rs2 (R141). -/
abbrev Reg := BitVec 5

end Sys2Proof
end

