-- ==== Sys2Proof/Config.lean ====
section
/-! DEFINITION. What an implementation or the platform fixes (spec 00 R7 to R14, 92 part 2), as plain data, and
the free values: what the spec leaves open, as constants without a body that nothing can evaluate. -/

namespace Sys2Proof

/-- The operations the FPU can be asked for (44 R499): the 36 FPops, and any word of FPop1 or FPop2 with an opf that
is not assigned (R439). -/
inductive FpFn where
  | fitos | fitod | fitox | fstoi | fdtoi | fxtoi
  | fstod | fstox | fdtos | fdtox | fxtos | fxtod
  | fmovs | fnegs | fabss
  | fsqrts | fsqrtd | fsqrtx
  | fadds | faddd | faddx | fsubs | fsubd | fsubx
  | fmuls | fmuld | fmulx | fdivs | fdivd | fdivx
  | fcmps | fcmpd | fcmpx | fcmpes | fcmped | fcmpex
  | unassigned
deriving DecidableEq, Repr

/-- The kinds of access the memory system sees (R114). -/
inductive Access where
  | read | write | fetch
deriving DecidableEq, Repr

/-- The signals the external system drives between instructions: bp_IRL and bp_reset_in (R84, R85). -/
structure Inputs where
  irl : BitVec 4
  resetIn : Bool
deriving DecidableEq, Repr

/-- A range of addresses of one address space behind which there is no storage but something else of the environment: a
device, a cache or MMU control register, a remapped or a changing place (R12, R103, D3). -/
structure DeviceRange where
  asi : Byte
  first : Word
  last : Word
deriving DecidableEq, Repr

/-- A range of addresses of one address space at which the memory system asserts bp_memory_access_exception
(R84, R110, 92 D4), for the kinds of access marked. -/
structure FaultRange where
  asi : Byte
  first : Word
  last : Word
  onRead : Bool
  onWrite : Bool
  onFetch : Bool
deriving DecidableEq, Repr

/-- The parameters of an implementation and its platform. They are held in the state, and no step changes them. -/
structure Params where
  /-- NWINDOWS less 2: NWINDOWS ranges from 2 to 32 (R7). -/
  extraWindows : Fin 31
  /-- PSR.impl and PSR.ver (R8). -/
  impl : BitVec 4
  ver : BitVec 4
  /-- The signals bp_FPU_present and bp_CP_present (R9). -/
  fpuPresent : Bool
  cpPresent : Bool
  /-- IU_CACHE_PRESENT and the signal bp_I_cache_present (R10). -/
  iuCachePresent : Bool
  extCachePresent : Bool
  /-- FQ_DEPTH less 1: the queue has at least one entry (R11). -/
  extraQueue : Nat
  /-- false: the sequential refinement (R436, D17); true: the general queue model (R435). -/
  fpuConcurrent : Bool
  /-- false: the coprocessor does all its work when it is handed an instruction; true: it also steps on its own (R23,
  R480). -/
  cpConcurrent : Bool
  /-- ERROR_RESETS (R575, D11). -/
  errorResets : Bool
  /-- Tininess is detected before rounding (U17). -/
  tinyBeforeRounding : Bool
  /-- Which bits of TEM, aexc and cexc have their defined meaning; the others are state bits (R63). Bit 0 (NX) always
  has its meaning. -/
  temBits : BitVec 5
  aexcBits : BitVec 5
  cexcBits : BitVec 5
  /-- The FPops this FPU leaves to software (R439, U19). -/
  unimplemented : List FpFn
  /-- The FPops with the operands on which the FPU cannot finish (R438, U18). -/
  unfinished : List (FpFn × Nat × Nat)
  /-- The assigned instructions, other than FPops and CPops, that this IU does not implement, as masks and what the masked
  word equals (R423, last row). -/
  leftOut : List (Word × Word)
  /-- ASI_MAP (R12, R114, D3): the address spaces that exist, each with the bank of storage behind it, ... -/
  spaces : List (Byte × Nat)
  /-- ... the places where the environment answers by a function of its own, ... -/
  devices : List DeviceRange
  /-- ... and where, elsewhere, the memory system signals an exception (D4). -/
  faults : List FaultRange
deriving DecidableEq, Repr

/-- The coprocessor's modes (60 R548). -/
inductive CpMode where
  | execute | exceptionPending | exception
deriving DecidableEq, Repr, Inhabited

/-- The coprocessor's state (10 R79, 44 R480), opaque to the IU but for the registers its loads and stores name: `hidden`
is all the rest of it. The mode is the three-state scheme of R548. bp_CP_cc and bp_CP_exception are functions of the whole
of it (Config.cpCc, Config.cpException). DEDUCED, log entry 33. -/
structure CpState where
  c : Vector Word 32
  csr : Word
  cqAddr : Word
  cqInstr : Word
  mode : CpMode
  hidden : Nat
deriving DecidableEq, Repr, Inhabited

/-- Where a free value is drawn: each use in one step has a name of its own, so that each is chosen independently. -/
inductive Use where
  /-- Uses of a delayed-written field (43 R416 (b)). -/
  | rs1 | rs2 | rdRead | rdReadOdd | rdWrite | rdWriteOdd | link
  | privilege | dataSpace | fetchSpace
  | interruptEnable | interruptLevel
  | trapEnable | trapMode | trapWindow | trapBase
  | window | windowMask | returnEnable | returnMode
  | fpEnable | cpEnable | cpOwnStep | condition | carry | sign | yRead
  | stateRead (field : Nat)
  /-- The outcome of a hazard. -/
  | branchTaken | couplePc | coupleNpc | returnSpace
  /-- A fetch of a word that was stored to and not flushed since (R126). -/
  | staleFetch
  /-- Floating-point values and registers the spec leaves open. -/
  | nanBits | intBits | jBit | cexcBits | loadKept (n : Nat) | loadOld (n : Nat) | queueWord (n : Nat) | held | fsrLoaded
  | moveFtt | precisionRange
  /-- Warm reset (D9, U24). -/
  | resetPs | resetCwp | resetR17 | resetR18 | resetQne
deriving DecidableEq, Repr

/-- The cases of floating-point arithmetic the spec gives no result for: FSR.AU with a subnormal operand or result
(U13), FSR.RP = 3 (U14), and an extended operand with 0 < e < 32767 and j = 0 (R444). -/
inductive OpenCase where
  | abruptUnderflow | reservedPrecision | unnormal
deriving DecidableEq, Repr

/-- An answer of the floating-point arithmetic where it is open: result bits, exceptions and condition. -/
structure OpenAnswer where
  bits : BitVec 96
  texc : BitVec 5
  fcc : BitVec 2
deriving DecidableEq, Repr, Inhabited

/-- The free values of the spec, drawn at the state's counter and at a use. DESIGN CHOICE, safe: nothing constrains
them. -/
opaque Config.free : Nat → Use → Nat

/-- The result of a floating-point operation in an open case: of the counter, the operation, RD and the operands. -/
opaque Config.openArith : OpenCase → Nat → FpFn → BitVec 2 → Nat → Nat → OpenAnswer

/-- The constant a faulting LDF or LDDF may leave in a destination register (U6). -/
opaque Config.loadTrapConstant : Word

/-- The environment's answer to an access of a device (D3): its state afterwards, the word read, or none where it signals a
memory exception, and, where the access changes what the environment drives next, the coming input signals. -/
structure EnvAnswer where
  env : Nat
  data : Option Word
  coming : Option (List Inputs)
deriving DecidableEq, Repr, Inhabited

/-- ASI_MAP on a device (R114, D3), a read or a fetch: of the step, the environment's state, the kind of access, the address
space, the word's address and which of its bytes are asked for. -/
opaque Config.envRead : Nat → Nat → Access → Byte → Word → BitVec 4 → EnvAnswer

/-- ASI_MAP on a device (R114, D3), a write: of the step, the environment's state, the address space, the word's address,
which of its bytes are written, and the word. -/
opaque Config.envWrite : Nat → Nat → Byte → Word → BitVec 4 → Word → EnvAnswer

/-- The signal bp_CP_cc (R393, R480): cp_cc. -/
opaque Config.cpCc : CpState → BitVec 2

/-- The signal bp_CP_exception of an executing coprocessor (R480): cp_exception. -/
opaque Config.cpException : CpState → Bool

/-- The coprocessor's answers (R480), from which Machine/CpModes.lean takes all but the mode, which follows R545 and R548: a step
of its own (R23), ... -/
opaque Config.cpOwnStep : Nat → CpState → CpState

/-- ... a CPop, from the instruction word and its address, ... -/
opaque Config.cpOperation : CpState → Word → Word → CpState

/-- ... STDCQ, once it has stored the queue's front entry (R248), ... -/
opaque Config.cpAfterQueueStore : CpState → CpState

/-- ... and a load for it that took a data_access_exception (R225). -/
opaque Config.cpAfterLoadTrap : CpState → CpState

/-- Whether the coprocessor's queue is empty (R548: the queue is dependent on the coprocessor). -/
opaque Config.cpQueueEmpty : CpState → Bool

/-- What the rest of the coprocessor becomes once a register of it has been loaded, or stored (R480: cp_load, cp_store). -/
opaque Config.cpLoaded : CpState → Nat
opaque Config.cpStored : CpState → Nat

/-- The coprocessor after a reset (R573: coprocessor-dependent). -/
opaque Config.cpReset : CpState → CpState

end Sys2Proof
end

