-- ==== Sys2Proof/Syntax.lean ====
section
/-! DEFINITION. The instructions: one constructor for each row of the opcode table, in its order, with the fields the
instruction reads (spec 30 R141 to R148). Ignored fields are left out, but for the fields of an FPop that the
floating-point queue shows (R446), and a CPop's, which go to the coprocessor whole (R480). -/

namespace Sys2Proof

/-- The second operand of a format 3 instruction: r[rs2] if i = 0, simm13 if i = 1 (R147). -/
inductive Operand2 where
  | reg (rs2 : Reg)
  | imm (simm13 : BitVec 13)
deriving DecidableEq, Repr

/-- The count of a shift: r[rs2] if i = 0, shcnt if i = 1 (R296). -/
inductive ShiftCount where
  | reg (rs2 : Reg)
  | imm (shcnt : BitVec 5)
deriving DecidableEq, Repr

/-- The 184 instructions. -/
inductive Instr where
  /-- LDSB (R205). -/
  | ldsb (rd rs1 : Reg) (src : Operand2)
  /-- LDSH (R206). -/
  | ldsh (rd rs1 : Reg) (src : Operand2)
  /-- LDUB (R207). -/
  | ldub (rd rs1 : Reg) (src : Operand2)
  /-- LDUH (R208). -/
  | lduh (rd rs1 : Reg) (src : Operand2)
  /-- LD (R209). -/
  | ld (rd rs1 : Reg) (src : Operand2)
  /-- LDD (R210). -/
  | ldd (rd rs1 : Reg) (src : Operand2)
  /-- LDSBA (R213). -/
  | ldsba (rd rs1 rs2 : Reg) (asi : BitVec 8)
  /-- LDSHA (R214). -/
  | ldsha (rd rs1 rs2 : Reg) (asi : BitVec 8)
  /-- LDUBA (R215). -/
  | lduba (rd rs1 rs2 : Reg) (asi : BitVec 8)
  /-- LDUHA (R216). -/
  | lduha (rd rs1 rs2 : Reg) (asi : BitVec 8)
  /-- LDA (R217). -/
  | lda (rd rs1 rs2 : Reg) (asi : BitVec 8)
  /-- LDDA (R218). -/
  | ldda (rd rs1 rs2 : Reg) (asi : BitVec 8)
  /-- LDF (R221). -/
  | ldf (rd rs1 : Reg) (src : Operand2)
  /-- LDDF (R222). -/
  | lddf (rd rs1 : Reg) (src : Operand2)
  /-- LDFSR (R223). -/
  | ldfsr (rs1 : Reg) (src : Operand2)
  /-- LDC (R225). -/
  | ldc (rd rs1 : Reg) (src : Operand2)
  /-- LDDC (R226). -/
  | lddc (rd rs1 : Reg) (src : Operand2)
  /-- LDCSR (R227). -/
  | ldcsr (rs1 : Reg) (src : Operand2)
  /-- STB (R229). -/
  | stb (rd rs1 : Reg) (src : Operand2)
  /-- STH (R230). -/
  | sth (rd rs1 : Reg) (src : Operand2)
  /-- ST (R231). -/
  | st (rd rs1 : Reg) (src : Operand2)
  /-- STD (R232). -/
  | std (rd rs1 : Reg) (src : Operand2)
  /-- STBA (R233). -/
  | stba (rd rs1 rs2 : Reg) (asi : BitVec 8)
  /-- STHA (R234). -/
  | stha (rd rs1 rs2 : Reg) (asi : BitVec 8)
  /-- STA (R235). -/
  | sta (rd rs1 rs2 : Reg) (asi : BitVec 8)
  /-- STDA (R236). -/
  | stda (rd rs1 rs2 : Reg) (asi : BitVec 8)
  /-- STF (R240). -/
  | stf (rd rs1 : Reg) (src : Operand2)
  /-- STDF (R241). -/
  | stdf (rd rs1 : Reg) (src : Operand2)
  /-- STFSR (R242). -/
  | stfsr (rs1 : Reg) (src : Operand2)
  /-- STDFQ (R243). -/
  | stdfq (rs1 : Reg) (src : Operand2)
  /-- STC (R245). -/
  | stc (rd rs1 : Reg) (src : Operand2)
  /-- STDC (R246). -/
  | stdc (rd rs1 : Reg) (src : Operand2)
  /-- STCSR (R247). -/
  | stcsr (rs1 : Reg) (src : Operand2)
  /-- STDCQ (R248). -/
  | stdcq (rs1 : Reg) (src : Operand2)
  /-- LDSTUB (R250). -/
  | ldstub (rd rs1 : Reg) (src : Operand2)
  /-- LDSTUBA (R251). -/
  | ldstuba (rd rs1 rs2 : Reg) (asi : BitVec 8)
  /-- SWAP (R252). -/
  | swap (rd rs1 : Reg) (src : Operand2)
  /-- SWAPA (R253). -/
  | swapa (rd rs1 rs2 : Reg) (asi : BitVec 8)
  /-- ADD (R267). -/
  | add (rd rs1 : Reg) (src : Operand2)
  /-- ADDcc (R268). -/
  | addcc (rd rs1 : Reg) (src : Operand2)
  /-- ADDX (R269). -/
  | addx (rd rs1 : Reg) (src : Operand2)
  /-- ADDXcc (R270). -/
  | addxcc (rd rs1 : Reg) (src : Operand2)
  /-- TADDcc (R272). -/
  | taddcc (rd rs1 : Reg) (src : Operand2)
  /-- TADDccTV (R273). -/
  | taddcctv (rd rs1 : Reg) (src : Operand2)
  /-- TSUBcc (R274). -/
  | tsubcc (rd rs1 : Reg) (src : Operand2)
  /-- TSUBccTV (R275). -/
  | tsubcctv (rd rs1 : Reg) (src : Operand2)
  /-- SUB (R276). -/
  | sub (rd rs1 : Reg) (src : Operand2)
  /-- SUBcc (R277). -/
  | subcc (rd rs1 : Reg) (src : Operand2)
  /-- SUBX (R278). -/
  | subx (rd rs1 : Reg) (src : Operand2)
  /-- SUBXcc (R279). -/
  | subxcc (rd rs1 : Reg) (src : Operand2)
  /-- MULScc (R280). -/
  | mulscc (rd rs1 : Reg) (src : Operand2)
  /-- AND (R283). -/
  | and (rd rs1 : Reg) (src : Operand2)
  /-- ANDcc (R284). -/
  | andcc (rd rs1 : Reg) (src : Operand2)
  /-- ANDN (R285). -/
  | andn (rd rs1 : Reg) (src : Operand2)
  /-- ANDNcc (R286). -/
  | andncc (rd rs1 : Reg) (src : Operand2)
  /-- OR (R287). -/
  | or (rd rs1 : Reg) (src : Operand2)
  /-- ORcc (R288). -/
  | orcc (rd rs1 : Reg) (src : Operand2)
  /-- ORN (R289). -/
  | orn (rd rs1 : Reg) (src : Operand2)
  /-- ORNcc (R290). -/
  | orncc (rd rs1 : Reg) (src : Operand2)
  /-- XOR (R291). -/
  | xor (rd rs1 : Reg) (src : Operand2)
  /-- XORcc (R292). -/
  | xorcc (rd rs1 : Reg) (src : Operand2)
  /-- XNOR (R293). -/
  | xnor (rd rs1 : Reg) (src : Operand2)
  /-- XNORcc (R294). -/
  | xnorcc (rd rs1 : Reg) (src : Operand2)
  /-- SLL (R297). -/
  | sll (rd rs1 : Reg) (count : ShiftCount)
  /-- SRL (R298). -/
  | srl (rd rs1 : Reg) (count : ShiftCount)
  /-- SRA (R299). -/
  | sra (rd rs1 : Reg) (count : ShiftCount)
  /-- SETHI (R301). -/
  | sethi (rd : Reg) (imm : BitVec 22)
  /-- SAVE (R304). -/
  | save (rd rs1 : Reg) (src : Operand2)
  /-- RESTORE (R305). -/
  | restore (rd rs1 : Reg) (src : Operand2)
  /-- BN (R326). -/
  | bn (annul : Bool) (disp : BitVec 22)
  /-- BE (R328). -/
  | be (annul : Bool) (disp : BitVec 22)
  /-- BLE (R330). -/
  | ble (annul : Bool) (disp : BitVec 22)
  /-- BL (R332). -/
  | bl (annul : Bool) (disp : BitVec 22)
  /-- BLEU (R334). -/
  | bleu (annul : Bool) (disp : BitVec 22)
  /-- BCS (R336). -/
  | bcs (annul : Bool) (disp : BitVec 22)
  /-- BNEG (R338). -/
  | bneg (annul : Bool) (disp : BitVec 22)
  /-- BVS (R340). -/
  | bvs (annul : Bool) (disp : BitVec 22)
  /-- BA (R325). -/
  | ba (annul : Bool) (disp : BitVec 22)
  /-- BNE (R327). -/
  | bne (annul : Bool) (disp : BitVec 22)
  /-- BG (R329). -/
  | bg (annul : Bool) (disp : BitVec 22)
  /-- BGE (R331). -/
  | bge (annul : Bool) (disp : BitVec 22)
  /-- BGU (R333). -/
  | bgu (annul : Bool) (disp : BitVec 22)
  /-- BCC (R335). -/
  | bcc (annul : Bool) (disp : BitVec 22)
  /-- BPOS (R337). -/
  | bpos (annul : Bool) (disp : BitVec 22)
  /-- BVC (R339). -/
  | bvc (annul : Bool) (disp : BitVec 22)
  /-- FBN (R343). -/
  | fbn (annul : Bool) (disp : BitVec 22)
  /-- FBNE (R350). -/
  | fbne (annul : Bool) (disp : BitVec 22)
  /-- FBLG (R349). -/
  | fblg (annul : Bool) (disp : BitVec 22)
  /-- FBUL (R348). -/
  | fbul (annul : Bool) (disp : BitVec 22)
  /-- FBL (R347). -/
  | fbl (annul : Bool) (disp : BitVec 22)
  /-- FBUG (R346). -/
  | fbug (annul : Bool) (disp : BitVec 22)
  /-- FBG (R345). -/
  | fbg (annul : Bool) (disp : BitVec 22)
  /-- FBU (R344). -/
  | fbu (annul : Bool) (disp : BitVec 22)
  /-- FBA (R342). -/
  | fba (annul : Bool) (disp : BitVec 22)
  /-- FBE (R351). -/
  | fbe (annul : Bool) (disp : BitVec 22)
  /-- FBUE (R352). -/
  | fbue (annul : Bool) (disp : BitVec 22)
  /-- FBGE (R353). -/
  | fbge (annul : Bool) (disp : BitVec 22)
  /-- FBUGE (R354). -/
  | fbuge (annul : Bool) (disp : BitVec 22)
  /-- FBLE (R355). -/
  | fble (annul : Bool) (disp : BitVec 22)
  /-- FBULE (R356). -/
  | fbule (annul : Bool) (disp : BitVec 22)
  /-- FBO (R357). -/
  | fbo (annul : Bool) (disp : BitVec 22)
  /-- CBN (R395). -/
  | cbn (annul : Bool) (disp : BitVec 22)
  /-- CB123 (R402). -/
  | cb123 (annul : Bool) (disp : BitVec 22)
  /-- CB12 (R401). -/
  | cb12 (annul : Bool) (disp : BitVec 22)
  /-- CB13 (R400). -/
  | cb13 (annul : Bool) (disp : BitVec 22)
  /-- CB1 (R399). -/
  | cb1 (annul : Bool) (disp : BitVec 22)
  /-- CB23 (R398). -/
  | cb23 (annul : Bool) (disp : BitVec 22)
  /-- CB2 (R397). -/
  | cb2 (annul : Bool) (disp : BitVec 22)
  /-- CB3 (R396). -/
  | cb3 (annul : Bool) (disp : BitVec 22)
  /-- CBA (R394). -/
  | cba (annul : Bool) (disp : BitVec 22)
  /-- CB0 (R403). -/
  | cb0 (annul : Bool) (disp : BitVec 22)
  /-- CB03 (R404). -/
  | cb03 (annul : Bool) (disp : BitVec 22)
  /-- CB02 (R405). -/
  | cb02 (annul : Bool) (disp : BitVec 22)
  /-- CB023 (R406). -/
  | cb023 (annul : Bool) (disp : BitVec 22)
  /-- CB01 (R407). -/
  | cb01 (annul : Bool) (disp : BitVec 22)
  /-- CB013 (R408). -/
  | cb013 (annul : Bool) (disp : BitVec 22)
  /-- CB012 (R409). -/
  | cb012 (annul : Bool) (disp : BitVec 22)
  /-- CALL (R370). -/
  | call (disp : BitVec 30)
  /-- JMPL (R372). -/
  | jmpl (rd rs1 : Reg) (src : Operand2)
  /-- RETT (R374). -/
  | rett (rs1 : Reg) (src : Operand2)
  /-- TN (R378). -/
  | tn (rs1 : Reg) (src : Operand2)
  /-- TE (R380). -/
  | te (rs1 : Reg) (src : Operand2)
  /-- TLE (R382). -/
  | tle (rs1 : Reg) (src : Operand2)
  /-- TL (R384). -/
  | tl (rs1 : Reg) (src : Operand2)
  /-- TLEU (R386). -/
  | tleu (rs1 : Reg) (src : Operand2)
  /-- TCS (R388). -/
  | tcs (rs1 : Reg) (src : Operand2)
  /-- TNEG (R390). -/
  | tneg (rs1 : Reg) (src : Operand2)
  /-- TVS (R392). -/
  | tvs (rs1 : Reg) (src : Operand2)
  /-- TA (R377). -/
  | ta (rs1 : Reg) (src : Operand2)
  /-- TNE (R379). -/
  | tne (rs1 : Reg) (src : Operand2)
  /-- TG (R381). -/
  | tg (rs1 : Reg) (src : Operand2)
  /-- TGE (R383). -/
  | tge (rs1 : Reg) (src : Operand2)
  /-- TGU (R385). -/
  | tgu (rs1 : Reg) (src : Operand2)
  /-- TCC (R387). -/
  | tcc (rs1 : Reg) (src : Operand2)
  /-- TPOS (R389). -/
  | tpos (rs1 : Reg) (src : Operand2)
  /-- TVC (R391). -/
  | tvc (rs1 : Reg) (src : Operand2)
  /-- RDY (R411). -/
  | rdy (rd : Reg)
  /-- RDPSR (R412). -/
  | rdpsr (rd : Reg)
  /-- RDWIM (R414). -/
  | rdwim (rd : Reg)
  /-- RDTBR (R415). -/
  | rdtbr (rd : Reg)
  /-- WRY (R418). -/
  | wry (rs1 : Reg) (src : Operand2)
  /-- WRPSR (R413). -/
  | wrpsr (rs1 : Reg) (src : Operand2)
  /-- WRWIM (R419). -/
  | wrwim (rs1 : Reg) (src : Operand2)
  /-- WRTBR (R421). -/
  | wrtbr (rs1 : Reg) (src : Operand2)
  /-- UNIMP (R422). -/
  | unimp (const : BitVec 22)
  /-- IFLUSH (R420). -/
  | iflush (rs1 : Reg) (src : Operand2)
  /-- FiTOs (R450). -/
  | fitos (rd rs1 rs2 : Reg)
  /-- FiTOd (R451). -/
  | fitod (rd rs1 rs2 : Reg)
  /-- FiTOx (R452). -/
  | fitox (rd rs1 rs2 : Reg)
  /-- FsTOi (R453). -/
  | fstoi (rd rs1 rs2 : Reg)
  /-- FdTOi (R454). -/
  | fdtoi (rd rs1 rs2 : Reg)
  /-- FxTOi (R455). -/
  | fxtoi (rd rs1 rs2 : Reg)
  /-- FsTOd (R456). -/
  | fstod (rd rs1 rs2 : Reg)
  /-- FsTOx (R457). -/
  | fstox (rd rs1 rs2 : Reg)
  /-- FdTOs (R458). -/
  | fdtos (rd rs1 rs2 : Reg)
  /-- FdTOx (R459). -/
  | fdtox (rd rs1 rs2 : Reg)
  /-- FxTOs (R460). -/
  | fxtos (rd rs1 rs2 : Reg)
  /-- FxTOd (R461). -/
  | fxtod (rd rs1 rs2 : Reg)
  /-- FMOVs (R462). -/
  | fmovs (rd rs1 rs2 : Reg)
  /-- FNEGs (R463). -/
  | fnegs (rd rs1 rs2 : Reg)
  /-- FABSs (R464). -/
  | fabss (rd rs1 rs2 : Reg)
  /-- FSQRTs (R465). -/
  | fsqrts (rd rs1 rs2 : Reg)
  /-- FSQRTd (R466). -/
  | fsqrtd (rd rs1 rs2 : Reg)
  /-- FSQRTx (R467). -/
  | fsqrtx (rd rs1 rs2 : Reg)
  /-- FADDs (R468). -/
  | fadds (rd rs1 rs2 : Reg)
  /-- FADDd (R469). -/
  | faddd (rd rs1 rs2 : Reg)
  /-- FADDx (R470). -/
  | faddx (rd rs1 rs2 : Reg)
  /-- FSUBs (R471). -/
  | fsubs (rd rs1 rs2 : Reg)
  /-- FSUBd (R472). -/
  | fsubd (rd rs1 rs2 : Reg)
  /-- FSUBx (R473). -/
  | fsubx (rd rs1 rs2 : Reg)
  /-- FMULs (R474). -/
  | fmuls (rd rs1 rs2 : Reg)
  /-- FMULd (R475). -/
  | fmuld (rd rs1 rs2 : Reg)
  /-- FMULx (R476). -/
  | fmulx (rd rs1 rs2 : Reg)
  /-- FDIVs (R477). -/
  | fdivs (rd rs1 rs2 : Reg)
  /-- FDIVd (R478). -/
  | fdivd (rd rs1 rs2 : Reg)
  /-- FDIVx (R479). -/
  | fdivx (rd rs1 rs2 : Reg)
  /-- FCMPs (R481). -/
  | fcmps (rd rs1 rs2 : Reg)
  /-- FCMPd (R482). -/
  | fcmpd (rd rs1 rs2 : Reg)
  /-- FCMPx (R483). -/
  | fcmpx (rd rs1 rs2 : Reg)
  /-- FCMPEs (R484). -/
  | fcmpes (rd rs1 rs2 : Reg)
  /-- FCMPEd (R485). -/
  | fcmped (rd rs1 rs2 : Reg)
  /-- FCMPEx (R486). -/
  | fcmpex (rd rs1 rs2 : Reg)
  /-- CPop1 (R488). -/
  | cpop1 (rd rs1 : Reg) (opc : BitVec 9) (rs2 : Reg)
  /-- CPop2 (R489). -/
  | cpop2 (rd rs1 : Reg) (opc : BitVec 9) (rs2 : Reg)
deriving DecidableEq, Repr

end Sys2Proof
end

