-- ==== Sys2Proof/WellFormed.lean ====
section
/-! DEFINITION. Which instruction terms have an encoding of their own: the register of a doubleword instruction is
written with its least significant bit 0, the bit that the machine ignores (spec 30 R148, 40 R212). Every other field
is as wide as the encoding's. -/

namespace Sys2Proof

/-- A register number that names the first of a pair (R74, R212). -/
def evenReg (r : Reg) : Bool := !r.getLsbD 0

/-- The instruction term stands for a word: a doubleword instruction names an even register. -/
def Instr.wellFormed (i : Instr) : Bool :=
  match i with
  | .ldd rd _ _ => evenReg rd
  | .ldda rd _ _ _ => evenReg rd
  | .lddf rd _ _ => evenReg rd
  | .lddc rd _ _ => evenReg rd
  | .std rd _ _ => evenReg rd
  | .stda rd _ _ _ => evenReg rd
  | .stdf rd _ _ => evenReg rd
  | .stdc rd _ _ => evenReg rd
  | .ldsb _ _ _ => true
  | .ldsh _ _ _ => true
  | .ldub _ _ _ => true
  | .lduh _ _ _ => true
  | .ld _ _ _ => true
  | .ldsba _ _ _ _ => true
  | .ldsha _ _ _ _ => true
  | .lduba _ _ _ _ => true
  | .lduha _ _ _ _ => true
  | .lda _ _ _ _ => true
  | .ldf _ _ _ => true
  | .ldfsr _ _ => true
  | .ldc _ _ _ => true
  | .ldcsr _ _ => true
  | .stb _ _ _ => true
  | .sth _ _ _ => true
  | .st _ _ _ => true
  | .stba _ _ _ _ => true
  | .stha _ _ _ _ => true
  | .sta _ _ _ _ => true
  | .stf _ _ _ => true
  | .stfsr _ _ => true
  | .stdfq _ _ => true
  | .stc _ _ _ => true
  | .stcsr _ _ => true
  | .stdcq _ _ => true
  | .ldstub _ _ _ => true
  | .ldstuba _ _ _ _ => true
  | .swap _ _ _ => true
  | .swapa _ _ _ _ => true
  | .add _ _ _ => true
  | .addcc _ _ _ => true
  | .addx _ _ _ => true
  | .addxcc _ _ _ => true
  | .taddcc _ _ _ => true
  | .taddcctv _ _ _ => true
  | .tsubcc _ _ _ => true
  | .tsubcctv _ _ _ => true
  | .sub _ _ _ => true
  | .subcc _ _ _ => true
  | .subx _ _ _ => true
  | .subxcc _ _ _ => true
  | .mulscc _ _ _ => true
  | .and _ _ _ => true
  | .andcc _ _ _ => true
  | .andn _ _ _ => true
  | .andncc _ _ _ => true
  | .or _ _ _ => true
  | .orcc _ _ _ => true
  | .orn _ _ _ => true
  | .orncc _ _ _ => true
  | .xor _ _ _ => true
  | .xorcc _ _ _ => true
  | .xnor _ _ _ => true
  | .xnorcc _ _ _ => true
  | .sll _ _ _ => true
  | .srl _ _ _ => true
  | .sra _ _ _ => true
  | .sethi _ _ => true
  | .save _ _ _ => true
  | .restore _ _ _ => true
  | .bn _ _ => true
  | .be _ _ => true
  | .ble _ _ => true
  | .bl _ _ => true
  | .bleu _ _ => true
  | .bcs _ _ => true
  | .bneg _ _ => true
  | .bvs _ _ => true
  | .ba _ _ => true
  | .bne _ _ => true
  | .bg _ _ => true
  | .bge _ _ => true
  | .bgu _ _ => true
  | .bcc _ _ => true
  | .bpos _ _ => true
  | .bvc _ _ => true
  | .fbn _ _ => true
  | .fbne _ _ => true
  | .fblg _ _ => true
  | .fbul _ _ => true
  | .fbl _ _ => true
  | .fbug _ _ => true
  | .fbg _ _ => true
  | .fbu _ _ => true
  | .fba _ _ => true
  | .fbe _ _ => true
  | .fbue _ _ => true
  | .fbge _ _ => true
  | .fbuge _ _ => true
  | .fble _ _ => true
  | .fbule _ _ => true
  | .fbo _ _ => true
  | .cbn _ _ => true
  | .cb123 _ _ => true
  | .cb12 _ _ => true
  | .cb13 _ _ => true
  | .cb1 _ _ => true
  | .cb23 _ _ => true
  | .cb2 _ _ => true
  | .cb3 _ _ => true
  | .cba _ _ => true
  | .cb0 _ _ => true
  | .cb03 _ _ => true
  | .cb02 _ _ => true
  | .cb023 _ _ => true
  | .cb01 _ _ => true
  | .cb013 _ _ => true
  | .cb012 _ _ => true
  | .call _ => true
  | .jmpl _ _ _ => true
  | .rett _ _ => true
  | .tn _ _ => true
  | .te _ _ => true
  | .tle _ _ => true
  | .tl _ _ => true
  | .tleu _ _ => true
  | .tcs _ _ => true
  | .tneg _ _ => true
  | .tvs _ _ => true
  | .ta _ _ => true
  | .tne _ _ => true
  | .tg _ _ => true
  | .tge _ _ => true
  | .tgu _ _ => true
  | .tcc _ _ => true
  | .tpos _ _ => true
  | .tvc _ _ => true
  | .rdy _ => true
  | .rdpsr _ => true
  | .rdwim _ => true
  | .rdtbr _ => true
  | .wry _ _ => true
  | .wrpsr _ _ => true
  | .wrwim _ _ => true
  | .wrtbr _ _ => true
  | .unimp _ => true
  | .iflush _ _ => true
  | .fitos _ _ _ => true
  | .fitod _ _ _ => true
  | .fitox _ _ _ => true
  | .fstoi _ _ _ => true
  | .fdtoi _ _ _ => true
  | .fxtoi _ _ _ => true
  | .fstod _ _ _ => true
  | .fstox _ _ _ => true
  | .fdtos _ _ _ => true
  | .fdtox _ _ _ => true
  | .fxtos _ _ _ => true
  | .fxtod _ _ _ => true
  | .fmovs _ _ _ => true
  | .fnegs _ _ _ => true
  | .fabss _ _ _ => true
  | .fsqrts _ _ _ => true
  | .fsqrtd _ _ _ => true
  | .fsqrtx _ _ _ => true
  | .fadds _ _ _ => true
  | .faddd _ _ _ => true
  | .faddx _ _ _ => true
  | .fsubs _ _ _ => true
  | .fsubd _ _ _ => true
  | .fsubx _ _ _ => true
  | .fmuls _ _ _ => true
  | .fmuld _ _ _ => true
  | .fmulx _ _ _ => true
  | .fdivs _ _ _ => true
  | .fdivd _ _ _ => true
  | .fdivx _ _ _ => true
  | .fcmps _ _ _ => true
  | .fcmpd _ _ _ => true
  | .fcmpx _ _ _ => true
  | .fcmpes _ _ _ => true
  | .fcmped _ _ _ => true
  | .fcmpex _ _ _ => true
  | .cpop1 _ _ _ _ => true
  | .cpop2 _ _ _ _ => true

/-- `Instr.wellFormed` as a proposition. -/
abbrev Instr.WellFormed (i : Instr) : Prop := i.wellFormed = true

end Sys2Proof
end

