-- ==== Sys2Proof/Decode.lean ====
section
/-! DEFINITION. From words to instructions and back (spec 30 R140 to R158). `decodeWord` classifies a word by op, op2 or
op3, opf, cond and, for the alternate-space instructions, i (R149); every other bit is a field or ignored (R148).
`decode` reads the word from bytes in the machine's order, most significant byte first (R105). `encode` writes an
instruction's word from the same tables, ignored fields zero (D6). -/

namespace Sys2Proof

/-! ### Fields (R141) -/

def fieldOp (w : Word) : BitVec 2 := w.extractLsb' 30 2
def fieldRd (w : Word) : Reg := w.extractLsb' 25 5
def fieldA (w : Word) : Bool := w.getLsbD 29
def fieldCond (w : Word) : BitVec 4 := w.extractLsb' 25 4
def fieldOp2 (w : Word) : BitVec 3 := w.extractLsb' 22 3
def fieldImm22 (w : Word) : BitVec 22 := w.extractLsb' 0 22
def fieldDisp30 (w : Word) : BitVec 30 := w.extractLsb' 0 30
def fieldOp3 (w : Word) : BitVec 6 := w.extractLsb' 19 6
def fieldRs1 (w : Word) : Reg := w.extractLsb' 14 5
def fieldI (w : Word) : Bool := w.getLsbD 13
def fieldAsi (w : Word) : BitVec 8 := w.extractLsb' 5 8
def fieldOpf (w : Word) : BitVec 9 := w.extractLsb' 5 9
def fieldSimm13 (w : Word) : BitVec 13 := w.extractLsb' 0 13
def fieldRs2 (w : Word) : Reg := w.extractLsb' 0 5

/-- The register number with its least significant bit treated as 0 (R148). -/
def clearLow (r : Reg) : Reg := r &&& 0b11110#5

/-- The second operand (R147). -/
def fieldOperand2 (w : Word) : Operand2 := if fieldI w then .imm (fieldSimm13 w) else .reg (fieldRs2 w)

/-- The shift count (R296). -/
def fieldShift (w : Word) : ShiftCount := if fieldI w then .imm (fieldRs2 w) else .reg (fieldRs2 w)

/-! ### Decoding -/

/-- Why a word or a list of bytes is no instruction (R158, R423). -/
inductive DecodeError where
  /-- Fewer than four bytes. -/
  | truncated
  /-- op = 00 with an op2 that is marked unimplemented (R151): illegal_instruction. -/
  | unassignedOp2
  /-- op = 10 or 11 with an op3 that is marked unimplemented (R152, R153): illegal_instruction. -/
  | unassignedOp3
  /-- An alternate-space instruction with i = 1 (R158): illegal_instruction. -/
  | alternateImmediate
  /-- FPop1 or FPop2 with an opf that is not assigned (R154): an unimplemented FPop (R439). -/
  | unassignedFpop
deriving DecidableEq, Repr

/-- Bicc by cond (R155). -/
def decodeBicc (w : Word) : Instr :=
  match fieldCond w with
  | 0b0000#4 => .bn (fieldA w) (fieldImm22 w)
  | 0b0001#4 => .be (fieldA w) (fieldImm22 w)
  | 0b0010#4 => .ble (fieldA w) (fieldImm22 w)
  | 0b0011#4 => .bl (fieldA w) (fieldImm22 w)
  | 0b0100#4 => .bleu (fieldA w) (fieldImm22 w)
  | 0b0101#4 => .bcs (fieldA w) (fieldImm22 w)
  | 0b0110#4 => .bneg (fieldA w) (fieldImm22 w)
  | 0b0111#4 => .bvs (fieldA w) (fieldImm22 w)
  | 0b1000#4 => .ba (fieldA w) (fieldImm22 w)
  | 0b1001#4 => .bne (fieldA w) (fieldImm22 w)
  | 0b1010#4 => .bg (fieldA w) (fieldImm22 w)
  | 0b1011#4 => .bge (fieldA w) (fieldImm22 w)
  | 0b1100#4 => .bgu (fieldA w) (fieldImm22 w)
  | 0b1101#4 => .bcc (fieldA w) (fieldImm22 w)
  | 0b1110#4 => .bpos (fieldA w) (fieldImm22 w)
  | _ => .bvc (fieldA w) (fieldImm22 w)

/-- FBfcc by cond (R156). -/
def decodeFBfcc (w : Word) : Instr :=
  match fieldCond w with
  | 0b0000#4 => .fbn (fieldA w) (fieldImm22 w)
  | 0b0001#4 => .fbne (fieldA w) (fieldImm22 w)
  | 0b0010#4 => .fblg (fieldA w) (fieldImm22 w)
  | 0b0011#4 => .fbul (fieldA w) (fieldImm22 w)
  | 0b0100#4 => .fbl (fieldA w) (fieldImm22 w)
  | 0b0101#4 => .fbug (fieldA w) (fieldImm22 w)
  | 0b0110#4 => .fbg (fieldA w) (fieldImm22 w)
  | 0b0111#4 => .fbu (fieldA w) (fieldImm22 w)
  | 0b1000#4 => .fba (fieldA w) (fieldImm22 w)
  | 0b1001#4 => .fbe (fieldA w) (fieldImm22 w)
  | 0b1010#4 => .fbue (fieldA w) (fieldImm22 w)
  | 0b1011#4 => .fbge (fieldA w) (fieldImm22 w)
  | 0b1100#4 => .fbuge (fieldA w) (fieldImm22 w)
  | 0b1101#4 => .fble (fieldA w) (fieldImm22 w)
  | 0b1110#4 => .fbule (fieldA w) (fieldImm22 w)
  | _ => .fbo (fieldA w) (fieldImm22 w)

/-- CBccc by cond (R157). -/
def decodeCBccc (w : Word) : Instr :=
  match fieldCond w with
  | 0b0000#4 => .cbn (fieldA w) (fieldImm22 w)
  | 0b0001#4 => .cb123 (fieldA w) (fieldImm22 w)
  | 0b0010#4 => .cb12 (fieldA w) (fieldImm22 w)
  | 0b0011#4 => .cb13 (fieldA w) (fieldImm22 w)
  | 0b0100#4 => .cb1 (fieldA w) (fieldImm22 w)
  | 0b0101#4 => .cb23 (fieldA w) (fieldImm22 w)
  | 0b0110#4 => .cb2 (fieldA w) (fieldImm22 w)
  | 0b0111#4 => .cb3 (fieldA w) (fieldImm22 w)
  | 0b1000#4 => .cba (fieldA w) (fieldImm22 w)
  | 0b1001#4 => .cb0 (fieldA w) (fieldImm22 w)
  | 0b1010#4 => .cb03 (fieldA w) (fieldImm22 w)
  | 0b1011#4 => .cb02 (fieldA w) (fieldImm22 w)
  | 0b1100#4 => .cb023 (fieldA w) (fieldImm22 w)
  | 0b1101#4 => .cb01 (fieldA w) (fieldImm22 w)
  | 0b1110#4 => .cb013 (fieldA w) (fieldImm22 w)
  | _ => .cb012 (fieldA w) (fieldImm22 w)

/-- Ticc by cond (R155). -/
def decodeTicc (w : Word) : Instr :=
  match fieldCond w with
  | 0b0000#4 => .tn (fieldRs1 w) (fieldOperand2 w)
  | 0b0001#4 => .te (fieldRs1 w) (fieldOperand2 w)
  | 0b0010#4 => .tle (fieldRs1 w) (fieldOperand2 w)
  | 0b0011#4 => .tl (fieldRs1 w) (fieldOperand2 w)
  | 0b0100#4 => .tleu (fieldRs1 w) (fieldOperand2 w)
  | 0b0101#4 => .tcs (fieldRs1 w) (fieldOperand2 w)
  | 0b0110#4 => .tneg (fieldRs1 w) (fieldOperand2 w)
  | 0b0111#4 => .tvs (fieldRs1 w) (fieldOperand2 w)
  | 0b1000#4 => .ta (fieldRs1 w) (fieldOperand2 w)
  | 0b1001#4 => .tne (fieldRs1 w) (fieldOperand2 w)
  | 0b1010#4 => .tg (fieldRs1 w) (fieldOperand2 w)
  | 0b1011#4 => .tge (fieldRs1 w) (fieldOperand2 w)
  | 0b1100#4 => .tgu (fieldRs1 w) (fieldOperand2 w)
  | 0b1101#4 => .tcc (fieldRs1 w) (fieldOperand2 w)
  | 0b1110#4 => .tpos (fieldRs1 w) (fieldOperand2 w)
  | _ => .tvc (fieldRs1 w) (fieldOperand2 w)

/-- Format 2, by op2 (R151). -/
def decodeFormat2 (w : Word) : Except DecodeError Instr :=
  match fieldOp2 w with
  | 0b000#3 => .ok (.unimp (fieldImm22 w))
  | 0b010#3 => .ok (decodeBicc w)
  | 0b100#3 => .ok (.sethi (fieldRd w) (fieldImm22 w))
  | 0b110#3 => .ok (decodeFBfcc w)
  | 0b111#3 => .ok (decodeCBccc w)
  | _ => .error .unassignedOp2

/-- An alternate-space instruction must have i = 0 (R158). -/
def alternateForm (w : Word) (i : Instr) : Except DecodeError Instr :=
  if fieldI w then .error .alternateImmediate else .ok i

/-- FPop1 by opf (R154). -/
def decodeFPop1 (w : Word) : Except DecodeError Instr :=
  match fieldOpf w with
  | 0b000000001#9 => .ok (.fmovs (fieldRd w) (fieldRs1 w) (fieldRs2 w))
  | 0b000000101#9 => .ok (.fnegs (fieldRd w) (fieldRs1 w) (fieldRs2 w))
  | 0b000001001#9 => .ok (.fabss (fieldRd w) (fieldRs1 w) (fieldRs2 w))
  | 0b000101001#9 => .ok (.fsqrts (fieldRd w) (fieldRs1 w) (fieldRs2 w))
  | 0b000101010#9 => .ok (.fsqrtd (fieldRd w) (fieldRs1 w) (fieldRs2 w))
  | 0b000101011#9 => .ok (.fsqrtx (fieldRd w) (fieldRs1 w) (fieldRs2 w))
  | 0b001000001#9 => .ok (.fadds (fieldRd w) (fieldRs1 w) (fieldRs2 w))
  | 0b001000010#9 => .ok (.faddd (fieldRd w) (fieldRs1 w) (fieldRs2 w))
  | 0b001000011#9 => .ok (.faddx (fieldRd w) (fieldRs1 w) (fieldRs2 w))
  | 0b001000101#9 => .ok (.fsubs (fieldRd w) (fieldRs1 w) (fieldRs2 w))
  | 0b001000110#9 => .ok (.fsubd (fieldRd w) (fieldRs1 w) (fieldRs2 w))
  | 0b001000111#9 => .ok (.fsubx (fieldRd w) (fieldRs1 w) (fieldRs2 w))
  | 0b001001001#9 => .ok (.fmuls (fieldRd w) (fieldRs1 w) (fieldRs2 w))
  | 0b001001010#9 => .ok (.fmuld (fieldRd w) (fieldRs1 w) (fieldRs2 w))
  | 0b001001011#9 => .ok (.fmulx (fieldRd w) (fieldRs1 w) (fieldRs2 w))
  | 0b001001101#9 => .ok (.fdivs (fieldRd w) (fieldRs1 w) (fieldRs2 w))
  | 0b001001110#9 => .ok (.fdivd (fieldRd w) (fieldRs1 w) (fieldRs2 w))
  | 0b001001111#9 => .ok (.fdivx (fieldRd w) (fieldRs1 w) (fieldRs2 w))
  | 0b011000100#9 => .ok (.fitos (fieldRd w) (fieldRs1 w) (fieldRs2 w))
  | 0b011000110#9 => .ok (.fdtos (fieldRd w) (fieldRs1 w) (fieldRs2 w))
  | 0b011000111#9 => .ok (.fxtos (fieldRd w) (fieldRs1 w) (fieldRs2 w))
  | 0b011001000#9 => .ok (.fitod (fieldRd w) (fieldRs1 w) (fieldRs2 w))
  | 0b011001001#9 => .ok (.fstod (fieldRd w) (fieldRs1 w) (fieldRs2 w))
  | 0b011001011#9 => .ok (.fxtod (fieldRd w) (fieldRs1 w) (fieldRs2 w))
  | 0b011001100#9 => .ok (.fitox (fieldRd w) (fieldRs1 w) (fieldRs2 w))
  | 0b011001101#9 => .ok (.fstox (fieldRd w) (fieldRs1 w) (fieldRs2 w))
  | 0b011001110#9 => .ok (.fdtox (fieldRd w) (fieldRs1 w) (fieldRs2 w))
  | 0b011010001#9 => .ok (.fstoi (fieldRd w) (fieldRs1 w) (fieldRs2 w))
  | 0b011010010#9 => .ok (.fdtoi (fieldRd w) (fieldRs1 w) (fieldRs2 w))
  | 0b011010011#9 => .ok (.fxtoi (fieldRd w) (fieldRs1 w) (fieldRs2 w))
  | _ => .error .unassignedFpop

/-- FPop2 by opf (R154). -/
def decodeFPop2 (w : Word) : Except DecodeError Instr :=
  match fieldOpf w with
  | 0b001010001#9 => .ok (.fcmps (fieldRd w) (fieldRs1 w) (fieldRs2 w))
  | 0b001010010#9 => .ok (.fcmpd (fieldRd w) (fieldRs1 w) (fieldRs2 w))
  | 0b001010011#9 => .ok (.fcmpx (fieldRd w) (fieldRs1 w) (fieldRs2 w))
  | 0b001010101#9 => .ok (.fcmpes (fieldRd w) (fieldRs1 w) (fieldRs2 w))
  | 0b001010110#9 => .ok (.fcmped (fieldRd w) (fieldRs1 w) (fieldRs2 w))
  | 0b001010111#9 => .ok (.fcmpex (fieldRd w) (fieldRs1 w) (fieldRs2 w))
  | _ => .error .unassignedFpop

/-- Format 3 with op = 10, by op3 (R152). -/
def decodeArith (w : Word) : Except DecodeError Instr :=
  match fieldOp3 w with
  | 0b000000#6 => .ok (.add (fieldRd w) (fieldRs1 w) (fieldOperand2 w))
  | 0b000001#6 => .ok (.and (fieldRd w) (fieldRs1 w) (fieldOperand2 w))
  | 0b000010#6 => .ok (.or (fieldRd w) (fieldRs1 w) (fieldOperand2 w))
  | 0b000011#6 => .ok (.xor (fieldRd w) (fieldRs1 w) (fieldOperand2 w))
  | 0b000100#6 => .ok (.sub (fieldRd w) (fieldRs1 w) (fieldOperand2 w))
  | 0b000101#6 => .ok (.andn (fieldRd w) (fieldRs1 w) (fieldOperand2 w))
  | 0b000110#6 => .ok (.orn (fieldRd w) (fieldRs1 w) (fieldOperand2 w))
  | 0b000111#6 => .ok (.xnor (fieldRd w) (fieldRs1 w) (fieldOperand2 w))
  | 0b001000#6 => .ok (.addx (fieldRd w) (fieldRs1 w) (fieldOperand2 w))
  | 0b001100#6 => .ok (.subx (fieldRd w) (fieldRs1 w) (fieldOperand2 w))
  | 0b010000#6 => .ok (.addcc (fieldRd w) (fieldRs1 w) (fieldOperand2 w))
  | 0b010001#6 => .ok (.andcc (fieldRd w) (fieldRs1 w) (fieldOperand2 w))
  | 0b010010#6 => .ok (.orcc (fieldRd w) (fieldRs1 w) (fieldOperand2 w))
  | 0b010011#6 => .ok (.xorcc (fieldRd w) (fieldRs1 w) (fieldOperand2 w))
  | 0b010100#6 => .ok (.subcc (fieldRd w) (fieldRs1 w) (fieldOperand2 w))
  | 0b010101#6 => .ok (.andncc (fieldRd w) (fieldRs1 w) (fieldOperand2 w))
  | 0b010110#6 => .ok (.orncc (fieldRd w) (fieldRs1 w) (fieldOperand2 w))
  | 0b010111#6 => .ok (.xnorcc (fieldRd w) (fieldRs1 w) (fieldOperand2 w))
  | 0b011000#6 => .ok (.addxcc (fieldRd w) (fieldRs1 w) (fieldOperand2 w))
  | 0b011100#6 => .ok (.subxcc (fieldRd w) (fieldRs1 w) (fieldOperand2 w))
  | 0b100000#6 => .ok (.taddcc (fieldRd w) (fieldRs1 w) (fieldOperand2 w))
  | 0b100001#6 => .ok (.tsubcc (fieldRd w) (fieldRs1 w) (fieldOperand2 w))
  | 0b100010#6 => .ok (.taddcctv (fieldRd w) (fieldRs1 w) (fieldOperand2 w))
  | 0b100011#6 => .ok (.tsubcctv (fieldRd w) (fieldRs1 w) (fieldOperand2 w))
  | 0b100100#6 => .ok (.mulscc (fieldRd w) (fieldRs1 w) (fieldOperand2 w))
  | 0b100101#6 => .ok (.sll (fieldRd w) (fieldRs1 w) (fieldShift w))
  | 0b100110#6 => .ok (.srl (fieldRd w) (fieldRs1 w) (fieldShift w))
  | 0b100111#6 => .ok (.sra (fieldRd w) (fieldRs1 w) (fieldShift w))
  | 0b101000#6 => .ok (.rdy (fieldRd w))
  | 0b101001#6 => .ok (.rdpsr (fieldRd w))
  | 0b101010#6 => .ok (.rdwim (fieldRd w))
  | 0b101011#6 => .ok (.rdtbr (fieldRd w))
  | 0b110000#6 => .ok (.wry (fieldRs1 w) (fieldOperand2 w))
  | 0b110001#6 => .ok (.wrpsr (fieldRs1 w) (fieldOperand2 w))
  | 0b110010#6 => .ok (.wrwim (fieldRs1 w) (fieldOperand2 w))
  | 0b110011#6 => .ok (.wrtbr (fieldRs1 w) (fieldOperand2 w))
  | 0b110100#6 => decodeFPop1 w
  | 0b110101#6 => decodeFPop2 w
  | 0b110110#6 => .ok (.cpop1 (fieldRd w) (fieldRs1 w) (fieldOpf w) (fieldRs2 w))
  | 0b110111#6 => .ok (.cpop2 (fieldRd w) (fieldRs1 w) (fieldOpf w) (fieldRs2 w))
  | 0b111000#6 => .ok (.jmpl (fieldRd w) (fieldRs1 w) (fieldOperand2 w))
  | 0b111001#6 => .ok (.rett (fieldRs1 w) (fieldOperand2 w))
  | 0b111010#6 => .ok (decodeTicc w)
  | 0b111011#6 => .ok (.iflush (fieldRs1 w) (fieldOperand2 w))
  | 0b111100#6 => .ok (.save (fieldRd w) (fieldRs1 w) (fieldOperand2 w))
  | 0b111101#6 => .ok (.restore (fieldRd w) (fieldRs1 w) (fieldOperand2 w))
  | _ => .error .unassignedOp3

/-- Format 3 with op = 11, by op3 (R153). -/
def decodeMemory (w : Word) : Except DecodeError Instr :=
  match fieldOp3 w with
  | 0b000000#6 => .ok (.ld (fieldRd w) (fieldRs1 w) (fieldOperand2 w))
  | 0b000001#6 => .ok (.ldub (fieldRd w) (fieldRs1 w) (fieldOperand2 w))
  | 0b000010#6 => .ok (.lduh (fieldRd w) (fieldRs1 w) (fieldOperand2 w))
  | 0b000011#6 => .ok (.ldd (clearLow (fieldRd w)) (fieldRs1 w) (fieldOperand2 w))
  | 0b000100#6 => .ok (.st (fieldRd w) (fieldRs1 w) (fieldOperand2 w))
  | 0b000101#6 => .ok (.stb (fieldRd w) (fieldRs1 w) (fieldOperand2 w))
  | 0b000110#6 => .ok (.sth (fieldRd w) (fieldRs1 w) (fieldOperand2 w))
  | 0b000111#6 => .ok (.std (clearLow (fieldRd w)) (fieldRs1 w) (fieldOperand2 w))
  | 0b001001#6 => .ok (.ldsb (fieldRd w) (fieldRs1 w) (fieldOperand2 w))
  | 0b001010#6 => .ok (.ldsh (fieldRd w) (fieldRs1 w) (fieldOperand2 w))
  | 0b001101#6 => .ok (.ldstub (fieldRd w) (fieldRs1 w) (fieldOperand2 w))
  | 0b001111#6 => .ok (.swap (fieldRd w) (fieldRs1 w) (fieldOperand2 w))
  | 0b010000#6 => alternateForm w (.lda (fieldRd w) (fieldRs1 w) (fieldRs2 w) (fieldAsi w))
  | 0b010001#6 => alternateForm w (.lduba (fieldRd w) (fieldRs1 w) (fieldRs2 w) (fieldAsi w))
  | 0b010010#6 => alternateForm w (.lduha (fieldRd w) (fieldRs1 w) (fieldRs2 w) (fieldAsi w))
  | 0b010011#6 => alternateForm w (.ldda (clearLow (fieldRd w)) (fieldRs1 w) (fieldRs2 w) (fieldAsi w))
  | 0b010100#6 => alternateForm w (.sta (fieldRd w) (fieldRs1 w) (fieldRs2 w) (fieldAsi w))
  | 0b010101#6 => alternateForm w (.stba (fieldRd w) (fieldRs1 w) (fieldRs2 w) (fieldAsi w))
  | 0b010110#6 => alternateForm w (.stha (fieldRd w) (fieldRs1 w) (fieldRs2 w) (fieldAsi w))
  | 0b010111#6 => alternateForm w (.stda (clearLow (fieldRd w)) (fieldRs1 w) (fieldRs2 w) (fieldAsi w))
  | 0b011001#6 => alternateForm w (.ldsba (fieldRd w) (fieldRs1 w) (fieldRs2 w) (fieldAsi w))
  | 0b011010#6 => alternateForm w (.ldsha (fieldRd w) (fieldRs1 w) (fieldRs2 w) (fieldAsi w))
  | 0b011101#6 => alternateForm w (.ldstuba (fieldRd w) (fieldRs1 w) (fieldRs2 w) (fieldAsi w))
  | 0b011111#6 => alternateForm w (.swapa (fieldRd w) (fieldRs1 w) (fieldRs2 w) (fieldAsi w))
  | 0b100000#6 => .ok (.ldf (fieldRd w) (fieldRs1 w) (fieldOperand2 w))
  | 0b100001#6 => .ok (.ldfsr (fieldRs1 w) (fieldOperand2 w))
  | 0b100011#6 => .ok (.lddf (clearLow (fieldRd w)) (fieldRs1 w) (fieldOperand2 w))
  | 0b100100#6 => .ok (.stf (fieldRd w) (fieldRs1 w) (fieldOperand2 w))
  | 0b100101#6 => .ok (.stfsr (fieldRs1 w) (fieldOperand2 w))
  | 0b100110#6 => .ok (.stdfq (fieldRs1 w) (fieldOperand2 w))
  | 0b100111#6 => .ok (.stdf (clearLow (fieldRd w)) (fieldRs1 w) (fieldOperand2 w))
  | 0b110000#6 => .ok (.ldc (fieldRd w) (fieldRs1 w) (fieldOperand2 w))
  | 0b110001#6 => .ok (.ldcsr (fieldRs1 w) (fieldOperand2 w))
  | 0b110011#6 => .ok (.lddc (clearLow (fieldRd w)) (fieldRs1 w) (fieldOperand2 w))
  | 0b110100#6 => .ok (.stc (fieldRd w) (fieldRs1 w) (fieldOperand2 w))
  | 0b110101#6 => .ok (.stcsr (fieldRs1 w) (fieldOperand2 w))
  | 0b110110#6 => .ok (.stdcq (fieldRs1 w) (fieldOperand2 w))
  | 0b110111#6 => .ok (.stdc (clearLow (fieldRd w)) (fieldRs1 w) (fieldOperand2 w))
  | _ => .error .unassignedOp3

/-- The instruction a word stands for, by op (R149, R150). -/
def decodeWord (w : Word) : Except DecodeError Instr :=
  match fieldOp w with
  | 0b00#2 => decodeFormat2 w
  | 0b01#2 => .ok (.call (fieldDisp30 w))
  | 0b10#2 => decodeArith w
  | _ => decodeMemory w

/-- The word of four bytes, the first at the lowest address (R105). -/
def wordOfBytes (b0 b1 b2 b3 : Byte) : Word := b0 ++ b1 ++ b2 ++ b3

/-- Byte k of a word in memory order (R105). -/
def byteOfWord (w : Word) (k : Nat) : Byte := w.extractLsb' (8 * (3 - k)) 8

/-- The bytes of a word in memory order. -/
def bytesOfWord (w : Word) : List Byte := [byteOfWord w 0, byteOfWord w 1, byteOfWord w 2, byteOfWord w 3]

/-- The instruction at the front of a list of bytes, and the bytes after it. -/
def decode (bytes : List Byte) : Except DecodeError (Instr × List Byte) :=
  match bytes with
  | b0 :: b1 :: b2 :: b3 :: rest =>
    match decodeWord (wordOfBytes b0 b1 b2 b3) with
    | .ok i => .ok (i, rest)
    | .error e => .error e
  | _ => .error .truncated

/-- What the decoder reads from an instruction of one word whose bits are w. -/
def decodeTableWord (nbits w : Nat) : Option Instr :=
  match decode (bytesOfWord (BitVec.ofNat 32 (w % 2 ^ nbits))) with
  | .ok (i, _) => some i
  | .error _ => none

/-! ### Encoding -/

/-- Format 1 (R142). -/
def formCall (disp : BitVec 30) : Word := 0b01#2 ++ disp

/-- Format 2 with a constant (R143). -/
def formImm22 (rd : Reg) (op2 : BitVec 3) (imm : BitVec 22) : Word := 0b00#2 ++ rd ++ op2 ++ imm

/-- Format 2 with a displacement (R143). -/
def formBranch (annul : Bool) (cond : BitVec 4) (op2 : BitVec 3) (disp : BitVec 22) : Word :=
  0b00#2 ++ BitVec.ofBool annul ++ cond ++ op2 ++ disp

/-- Bits 13:0 of a format 3 instruction with a second operand (R144). -/
def lowOperand (src : Operand2) : BitVec 14 :=
  match src with
  | .reg rs2 => 0#1 ++ 0#8 ++ rs2
  | .imm simm13 => 1#1 ++ simm13

/-- Bits 13:0 of a shift (R144, R296). -/
def lowShift (count : ShiftCount) : BitVec 14 :=
  match count with
  | .reg rs2 => 0#1 ++ 0#8 ++ rs2
  | .imm shcnt => 1#1 ++ 0#8 ++ shcnt

/-- Format 3 (R144). -/
def form3 (op : BitVec 2) (rd : Reg) (op3 : BitVec 6) (rs1 : Reg) (low : BitVec 14) : Word :=
  op ++ rd ++ op3 ++ rs1 ++ low

/-- Format 3 with a second operand. -/
def formOperand (op : BitVec 2) (rd : Reg) (op3 : BitVec 6) (rs1 : Reg) (src : Operand2) : Word :=
  form3 op rd op3 rs1 (lowOperand src)

/-- Format 3 of a shift. -/
def formShift (rd : Reg) (op3 : BitVec 6) (rs1 : Reg) (count : ShiftCount) : Word :=
  form3 0b10#2 rd op3 rs1 (lowShift count)

/-- Format 3 of an alternate-space instruction. -/
def formAsi (rd : Reg) (op3 : BitVec 6) (rs1 : Reg) (asi : BitVec 8) (rs2 : Reg) : Word :=
  form3 0b11#2 rd op3 rs1 (0#1 ++ asi ++ rs2)

/-- Format 3 of an FPop or a CPop. -/
def formOpf (rd : Reg) (op3 : BitVec 6) (rs1 : Reg) (opf : BitVec 9) (rs2 : Reg) : Word :=
  form3 0b10#2 rd op3 rs1 (opf ++ rs2)

/-- The word of an instruction (R142 to R157). -/
def encode (i : Instr) : Word :=
  match i with
  | .ldsb rd rs1 src => formOperand 0b11#2 rd 0b001001#6 rs1 src
  | .ldsh rd rs1 src => formOperand 0b11#2 rd 0b001010#6 rs1 src
  | .ldub rd rs1 src => formOperand 0b11#2 rd 0b000001#6 rs1 src
  | .lduh rd rs1 src => formOperand 0b11#2 rd 0b000010#6 rs1 src
  | .ld rd rs1 src => formOperand 0b11#2 rd 0b000000#6 rs1 src
  | .ldd rd rs1 src => formOperand 0b11#2 rd 0b000011#6 rs1 src
  | .ldsba rd rs1 rs2 asi => formAsi rd 0b011001#6 rs1 asi rs2
  | .ldsha rd rs1 rs2 asi => formAsi rd 0b011010#6 rs1 asi rs2
  | .lduba rd rs1 rs2 asi => formAsi rd 0b010001#6 rs1 asi rs2
  | .lduha rd rs1 rs2 asi => formAsi rd 0b010010#6 rs1 asi rs2
  | .lda rd rs1 rs2 asi => formAsi rd 0b010000#6 rs1 asi rs2
  | .ldda rd rs1 rs2 asi => formAsi rd 0b010011#6 rs1 asi rs2
  | .ldf rd rs1 src => formOperand 0b11#2 rd 0b100000#6 rs1 src
  | .lddf rd rs1 src => formOperand 0b11#2 rd 0b100011#6 rs1 src
  | .ldfsr rs1 src => formOperand 0b11#2 0#5 0b100001#6 rs1 src
  | .ldc rd rs1 src => formOperand 0b11#2 rd 0b110000#6 rs1 src
  | .lddc rd rs1 src => formOperand 0b11#2 rd 0b110011#6 rs1 src
  | .ldcsr rs1 src => formOperand 0b11#2 0#5 0b110001#6 rs1 src
  | .stb rd rs1 src => formOperand 0b11#2 rd 0b000101#6 rs1 src
  | .sth rd rs1 src => formOperand 0b11#2 rd 0b000110#6 rs1 src
  | .st rd rs1 src => formOperand 0b11#2 rd 0b000100#6 rs1 src
  | .std rd rs1 src => formOperand 0b11#2 rd 0b000111#6 rs1 src
  | .stba rd rs1 rs2 asi => formAsi rd 0b010101#6 rs1 asi rs2
  | .stha rd rs1 rs2 asi => formAsi rd 0b010110#6 rs1 asi rs2
  | .sta rd rs1 rs2 asi => formAsi rd 0b010100#6 rs1 asi rs2
  | .stda rd rs1 rs2 asi => formAsi rd 0b010111#6 rs1 asi rs2
  | .stf rd rs1 src => formOperand 0b11#2 rd 0b100100#6 rs1 src
  | .stdf rd rs1 src => formOperand 0b11#2 rd 0b100111#6 rs1 src
  | .stfsr rs1 src => formOperand 0b11#2 0#5 0b100101#6 rs1 src
  | .stdfq rs1 src => formOperand 0b11#2 0#5 0b100110#6 rs1 src
  | .stc rd rs1 src => formOperand 0b11#2 rd 0b110100#6 rs1 src
  | .stdc rd rs1 src => formOperand 0b11#2 rd 0b110111#6 rs1 src
  | .stcsr rs1 src => formOperand 0b11#2 0#5 0b110101#6 rs1 src
  | .stdcq rs1 src => formOperand 0b11#2 0#5 0b110110#6 rs1 src
  | .ldstub rd rs1 src => formOperand 0b11#2 rd 0b001101#6 rs1 src
  | .ldstuba rd rs1 rs2 asi => formAsi rd 0b011101#6 rs1 asi rs2
  | .swap rd rs1 src => formOperand 0b11#2 rd 0b001111#6 rs1 src
  | .swapa rd rs1 rs2 asi => formAsi rd 0b011111#6 rs1 asi rs2
  | .add rd rs1 src => formOperand 0b10#2 rd 0b000000#6 rs1 src
  | .addcc rd rs1 src => formOperand 0b10#2 rd 0b010000#6 rs1 src
  | .addx rd rs1 src => formOperand 0b10#2 rd 0b001000#6 rs1 src
  | .addxcc rd rs1 src => formOperand 0b10#2 rd 0b011000#6 rs1 src
  | .taddcc rd rs1 src => formOperand 0b10#2 rd 0b100000#6 rs1 src
  | .taddcctv rd rs1 src => formOperand 0b10#2 rd 0b100010#6 rs1 src
  | .tsubcc rd rs1 src => formOperand 0b10#2 rd 0b100001#6 rs1 src
  | .tsubcctv rd rs1 src => formOperand 0b10#2 rd 0b100011#6 rs1 src
  | .sub rd rs1 src => formOperand 0b10#2 rd 0b000100#6 rs1 src
  | .subcc rd rs1 src => formOperand 0b10#2 rd 0b010100#6 rs1 src
  | .subx rd rs1 src => formOperand 0b10#2 rd 0b001100#6 rs1 src
  | .subxcc rd rs1 src => formOperand 0b10#2 rd 0b011100#6 rs1 src
  | .mulscc rd rs1 src => formOperand 0b10#2 rd 0b100100#6 rs1 src
  | .and rd rs1 src => formOperand 0b10#2 rd 0b000001#6 rs1 src
  | .andcc rd rs1 src => formOperand 0b10#2 rd 0b010001#6 rs1 src
  | .andn rd rs1 src => formOperand 0b10#2 rd 0b000101#6 rs1 src
  | .andncc rd rs1 src => formOperand 0b10#2 rd 0b010101#6 rs1 src
  | .or rd rs1 src => formOperand 0b10#2 rd 0b000010#6 rs1 src
  | .orcc rd rs1 src => formOperand 0b10#2 rd 0b010010#6 rs1 src
  | .orn rd rs1 src => formOperand 0b10#2 rd 0b000110#6 rs1 src
  | .orncc rd rs1 src => formOperand 0b10#2 rd 0b010110#6 rs1 src
  | .xor rd rs1 src => formOperand 0b10#2 rd 0b000011#6 rs1 src
  | .xorcc rd rs1 src => formOperand 0b10#2 rd 0b010011#6 rs1 src
  | .xnor rd rs1 src => formOperand 0b10#2 rd 0b000111#6 rs1 src
  | .xnorcc rd rs1 src => formOperand 0b10#2 rd 0b010111#6 rs1 src
  | .sll rd rs1 count => formShift rd 0b100101#6 rs1 count
  | .srl rd rs1 count => formShift rd 0b100110#6 rs1 count
  | .sra rd rs1 count => formShift rd 0b100111#6 rs1 count
  | .sethi rd imm => formImm22 rd 0b100#3 imm
  | .save rd rs1 src => formOperand 0b10#2 rd 0b111100#6 rs1 src
  | .restore rd rs1 src => formOperand 0b10#2 rd 0b111101#6 rs1 src
  | .bn annul disp => formBranch annul 0b0000#4 0b010#3 disp
  | .be annul disp => formBranch annul 0b0001#4 0b010#3 disp
  | .ble annul disp => formBranch annul 0b0010#4 0b010#3 disp
  | .bl annul disp => formBranch annul 0b0011#4 0b010#3 disp
  | .bleu annul disp => formBranch annul 0b0100#4 0b010#3 disp
  | .bcs annul disp => formBranch annul 0b0101#4 0b010#3 disp
  | .bneg annul disp => formBranch annul 0b0110#4 0b010#3 disp
  | .bvs annul disp => formBranch annul 0b0111#4 0b010#3 disp
  | .ba annul disp => formBranch annul 0b1000#4 0b010#3 disp
  | .bne annul disp => formBranch annul 0b1001#4 0b010#3 disp
  | .bg annul disp => formBranch annul 0b1010#4 0b010#3 disp
  | .bge annul disp => formBranch annul 0b1011#4 0b010#3 disp
  | .bgu annul disp => formBranch annul 0b1100#4 0b010#3 disp
  | .bcc annul disp => formBranch annul 0b1101#4 0b010#3 disp
  | .bpos annul disp => formBranch annul 0b1110#4 0b010#3 disp
  | .bvc annul disp => formBranch annul 0b1111#4 0b010#3 disp
  | .fbn annul disp => formBranch annul 0b0000#4 0b110#3 disp
  | .fbne annul disp => formBranch annul 0b0001#4 0b110#3 disp
  | .fblg annul disp => formBranch annul 0b0010#4 0b110#3 disp
  | .fbul annul disp => formBranch annul 0b0011#4 0b110#3 disp
  | .fbl annul disp => formBranch annul 0b0100#4 0b110#3 disp
  | .fbug annul disp => formBranch annul 0b0101#4 0b110#3 disp
  | .fbg annul disp => formBranch annul 0b0110#4 0b110#3 disp
  | .fbu annul disp => formBranch annul 0b0111#4 0b110#3 disp
  | .fba annul disp => formBranch annul 0b1000#4 0b110#3 disp
  | .fbe annul disp => formBranch annul 0b1001#4 0b110#3 disp
  | .fbue annul disp => formBranch annul 0b1010#4 0b110#3 disp
  | .fbge annul disp => formBranch annul 0b1011#4 0b110#3 disp
  | .fbuge annul disp => formBranch annul 0b1100#4 0b110#3 disp
  | .fble annul disp => formBranch annul 0b1101#4 0b110#3 disp
  | .fbule annul disp => formBranch annul 0b1110#4 0b110#3 disp
  | .fbo annul disp => formBranch annul 0b1111#4 0b110#3 disp
  | .cbn annul disp => formBranch annul 0b0000#4 0b111#3 disp
  | .cb123 annul disp => formBranch annul 0b0001#4 0b111#3 disp
  | .cb12 annul disp => formBranch annul 0b0010#4 0b111#3 disp
  | .cb13 annul disp => formBranch annul 0b0011#4 0b111#3 disp
  | .cb1 annul disp => formBranch annul 0b0100#4 0b111#3 disp
  | .cb23 annul disp => formBranch annul 0b0101#4 0b111#3 disp
  | .cb2 annul disp => formBranch annul 0b0110#4 0b111#3 disp
  | .cb3 annul disp => formBranch annul 0b0111#4 0b111#3 disp
  | .cba annul disp => formBranch annul 0b1000#4 0b111#3 disp
  | .cb0 annul disp => formBranch annul 0b1001#4 0b111#3 disp
  | .cb03 annul disp => formBranch annul 0b1010#4 0b111#3 disp
  | .cb02 annul disp => formBranch annul 0b1011#4 0b111#3 disp
  | .cb023 annul disp => formBranch annul 0b1100#4 0b111#3 disp
  | .cb01 annul disp => formBranch annul 0b1101#4 0b111#3 disp
  | .cb013 annul disp => formBranch annul 0b1110#4 0b111#3 disp
  | .cb012 annul disp => formBranch annul 0b1111#4 0b111#3 disp
  | .call disp => formCall disp
  | .jmpl rd rs1 src => formOperand 0b10#2 rd 0b111000#6 rs1 src
  | .rett rs1 src => formOperand 0b10#2 0#5 0b111001#6 rs1 src
  | .tn rs1 src => formOperand 0b10#2 (0#1 ++ 0b0000#4) 0b111010#6 rs1 src
  | .te rs1 src => formOperand 0b10#2 (0#1 ++ 0b0001#4) 0b111010#6 rs1 src
  | .tle rs1 src => formOperand 0b10#2 (0#1 ++ 0b0010#4) 0b111010#6 rs1 src
  | .tl rs1 src => formOperand 0b10#2 (0#1 ++ 0b0011#4) 0b111010#6 rs1 src
  | .tleu rs1 src => formOperand 0b10#2 (0#1 ++ 0b0100#4) 0b111010#6 rs1 src
  | .tcs rs1 src => formOperand 0b10#2 (0#1 ++ 0b0101#4) 0b111010#6 rs1 src
  | .tneg rs1 src => formOperand 0b10#2 (0#1 ++ 0b0110#4) 0b111010#6 rs1 src
  | .tvs rs1 src => formOperand 0b10#2 (0#1 ++ 0b0111#4) 0b111010#6 rs1 src
  | .ta rs1 src => formOperand 0b10#2 (0#1 ++ 0b1000#4) 0b111010#6 rs1 src
  | .tne rs1 src => formOperand 0b10#2 (0#1 ++ 0b1001#4) 0b111010#6 rs1 src
  | .tg rs1 src => formOperand 0b10#2 (0#1 ++ 0b1010#4) 0b111010#6 rs1 src
  | .tge rs1 src => formOperand 0b10#2 (0#1 ++ 0b1011#4) 0b111010#6 rs1 src
  | .tgu rs1 src => formOperand 0b10#2 (0#1 ++ 0b1100#4) 0b111010#6 rs1 src
  | .tcc rs1 src => formOperand 0b10#2 (0#1 ++ 0b1101#4) 0b111010#6 rs1 src
  | .tpos rs1 src => formOperand 0b10#2 (0#1 ++ 0b1110#4) 0b111010#6 rs1 src
  | .tvc rs1 src => formOperand 0b10#2 (0#1 ++ 0b1111#4) 0b111010#6 rs1 src
  | .rdy rd => formOperand 0b10#2 rd 0b101000#6 0#5 (.reg 0#5)
  | .rdpsr rd => formOperand 0b10#2 rd 0b101001#6 0#5 (.reg 0#5)
  | .rdwim rd => formOperand 0b10#2 rd 0b101010#6 0#5 (.reg 0#5)
  | .rdtbr rd => formOperand 0b10#2 rd 0b101011#6 0#5 (.reg 0#5)
  | .wry rs1 src => formOperand 0b10#2 0#5 0b110000#6 rs1 src
  | .wrpsr rs1 src => formOperand 0b10#2 0#5 0b110001#6 rs1 src
  | .wrwim rs1 src => formOperand 0b10#2 0#5 0b110010#6 rs1 src
  | .wrtbr rs1 src => formOperand 0b10#2 0#5 0b110011#6 rs1 src
  | .unimp const => formImm22 0#5 0b000#3 const
  | .iflush rs1 src => formOperand 0b10#2 0#5 0b111011#6 rs1 src
  | .fitos rd rs1 rs2 => formOpf rd 0b110100#6 rs1 0b011000100#9 rs2
  | .fitod rd rs1 rs2 => formOpf rd 0b110100#6 rs1 0b011001000#9 rs2
  | .fitox rd rs1 rs2 => formOpf rd 0b110100#6 rs1 0b011001100#9 rs2
  | .fstoi rd rs1 rs2 => formOpf rd 0b110100#6 rs1 0b011010001#9 rs2
  | .fdtoi rd rs1 rs2 => formOpf rd 0b110100#6 rs1 0b011010010#9 rs2
  | .fxtoi rd rs1 rs2 => formOpf rd 0b110100#6 rs1 0b011010011#9 rs2
  | .fstod rd rs1 rs2 => formOpf rd 0b110100#6 rs1 0b011001001#9 rs2
  | .fstox rd rs1 rs2 => formOpf rd 0b110100#6 rs1 0b011001101#9 rs2
  | .fdtos rd rs1 rs2 => formOpf rd 0b110100#6 rs1 0b011000110#9 rs2
  | .fdtox rd rs1 rs2 => formOpf rd 0b110100#6 rs1 0b011001110#9 rs2
  | .fxtos rd rs1 rs2 => formOpf rd 0b110100#6 rs1 0b011000111#9 rs2
  | .fxtod rd rs1 rs2 => formOpf rd 0b110100#6 rs1 0b011001011#9 rs2
  | .fmovs rd rs1 rs2 => formOpf rd 0b110100#6 rs1 0b000000001#9 rs2
  | .fnegs rd rs1 rs2 => formOpf rd 0b110100#6 rs1 0b000000101#9 rs2
  | .fabss rd rs1 rs2 => formOpf rd 0b110100#6 rs1 0b000001001#9 rs2
  | .fsqrts rd rs1 rs2 => formOpf rd 0b110100#6 rs1 0b000101001#9 rs2
  | .fsqrtd rd rs1 rs2 => formOpf rd 0b110100#6 rs1 0b000101010#9 rs2
  | .fsqrtx rd rs1 rs2 => formOpf rd 0b110100#6 rs1 0b000101011#9 rs2
  | .fadds rd rs1 rs2 => formOpf rd 0b110100#6 rs1 0b001000001#9 rs2
  | .faddd rd rs1 rs2 => formOpf rd 0b110100#6 rs1 0b001000010#9 rs2
  | .faddx rd rs1 rs2 => formOpf rd 0b110100#6 rs1 0b001000011#9 rs2
  | .fsubs rd rs1 rs2 => formOpf rd 0b110100#6 rs1 0b001000101#9 rs2
  | .fsubd rd rs1 rs2 => formOpf rd 0b110100#6 rs1 0b001000110#9 rs2
  | .fsubx rd rs1 rs2 => formOpf rd 0b110100#6 rs1 0b001000111#9 rs2
  | .fmuls rd rs1 rs2 => formOpf rd 0b110100#6 rs1 0b001001001#9 rs2
  | .fmuld rd rs1 rs2 => formOpf rd 0b110100#6 rs1 0b001001010#9 rs2
  | .fmulx rd rs1 rs2 => formOpf rd 0b110100#6 rs1 0b001001011#9 rs2
  | .fdivs rd rs1 rs2 => formOpf rd 0b110100#6 rs1 0b001001101#9 rs2
  | .fdivd rd rs1 rs2 => formOpf rd 0b110100#6 rs1 0b001001110#9 rs2
  | .fdivx rd rs1 rs2 => formOpf rd 0b110100#6 rs1 0b001001111#9 rs2
  | .fcmps rd rs1 rs2 => formOpf rd 0b110101#6 rs1 0b001010001#9 rs2
  | .fcmpd rd rs1 rs2 => formOpf rd 0b110101#6 rs1 0b001010010#9 rs2
  | .fcmpx rd rs1 rs2 => formOpf rd 0b110101#6 rs1 0b001010011#9 rs2
  | .fcmpes rd rs1 rs2 => formOpf rd 0b110101#6 rs1 0b001010101#9 rs2
  | .fcmped rd rs1 rs2 => formOpf rd 0b110101#6 rs1 0b001010110#9 rs2
  | .fcmpex rd rs1 rs2 => formOpf rd 0b110101#6 rs1 0b001010111#9 rs2
  | .cpop1 rd rs1 opc rs2 => formOpf rd 0b110110#6 rs1 opc rs2
  | .cpop2 rd rs1 opc rs2 => formOpf rd 0b110111#6 rs1 opc rs2

end Sys2Proof
end

