-- ==== Sys2Proof/Machine/State.lean ====
section
/-! DEFINITION. The state of the machine, all of it, as plain data (spec 10, 60, 70), the reasons a step could stop (there are
none but an instruction without a meaning), and the state right after reset. -/

namespace Sys2Proof.Machine

/-- The integer condition codes (R46). -/
structure Icc where
  n : Bool
  z : Bool
  v : Bool
  c : Bool
deriving DecidableEq, Repr

/-- The Processor State Register's storage (R45 to R52). impl and ver are parameters, bits 19:14 are no storage (D7). -/
structure Psr where
  icc : Icc
  ec : Bool
  ef : Bool
  pil : BitVec 4
  s : Bool
  ps : Bool
  et : Bool
  cwp : BitVec 5
deriving DecidableEq, Repr

/-- The Floating-point State Register's storage (R60 to R70). Bits 21:17 and 12 read 0 (R65). -/
structure Fsr where
  rd : BitVec 2
  rp : BitVec 2
  tem : BitVec 5
  au : Bool
  ftt : BitVec 3
  qne : Bool
  fcc : BitVec 2
  aexc : BitVec 5
  cexc : BitVec 5
deriving DecidableEq, Repr

/-- The FPU's modes (R77; reset and error: R531, R570). -/
inductive FpuMode where
  | execute | exceptionPending | exception | reset | error
deriving DecidableEq, Repr

/-- An entry of the floating-point queue: the address an FPop was fetched from, the FPop, and which operation it is
with its registers (R75, R76). -/
structure FqEntry where
  addr : Word
  instr : Word
  fn : FpFn
  rd : Reg
  rs1 : Reg
  rs2 : Reg
deriving DecidableEq, Repr

/-- The floating-point unit: f registers, FSR, mode and queue, front first (R60, R73, R75, R77). -/
structure Fpu where
  f : Vector Word 32
  fsr : Fsr
  mode : FpuMode
  queue : List FqEntry
deriving DecidableEq, Repr

/-- The IU's modes (R81). -/
inductive IuMode where
  | reset | execute | error
deriving DecidableEq, Repr

/-- The fields a write state register instruction writes with a delay (R416). -/
inductive Delayed where
  | icc | ec | ef | pil | s | ps | et | cwp | wim | tba | y
deriving DecidableEq, Repr

/-- A delayed write in flight: the field, the value it had, and for how many more instructions that value may be seen
(R83, R416, D16). -/
structure InFlight where
  field : Delayed
  old : Word
  left : Nat
deriving DecidableEq, Repr

/-- A word that was stored to while an instruction cache may hold its old contents, and whether it was flushed since
(R126, D5). The word's key is as in the memory. -/
structure StaleWord where
  key : Nat
  old : Word
  flushed : Bool
deriving DecidableEq, Repr

/-- What kind of instruction an instruction is, for the hazard rules R582 to R585: floating-point, coprocessor, a
conditional branch (B*cc of R358), JMPL. -/
structure Kind where
  fp : Bool
  cp : Bool
  conditional : Bool
  jmpl : Bool
deriving DecidableEq, Repr

/-- The machine's state. -/
structure State where
  /-- The parameters of the implementation (R7 to R14); no step changes them. -/
  cfg : Params
  /-- G[1..7] (R30): index n - 1. -/
  globals : Vector Word 7
  /-- R[0..16*NWINDOWS-1] (R30), the first cells of as many as the largest NWINDOWS needs. -/
  windows : Vector Word 512
  /-- The program counters (R40). -/
  pc : Word
  npc : Word
  /-- The annul flag (R44). -/
  annul : Bool
  /-- The state registers (R45 to R59). -/
  psr : Psr
  wim : Word
  tba : BitVec 20
  tt : BitVec 8
  y : Word
  /-- The floating-point unit (R60 to R77). -/
  fpu : Fpu
  /-- The coprocessor (R79, R480). -/
  cp : CpState
  /-- The IU mode and the signal pb_error (R81, R84). -/
  iu : IuMode
  pbError : Bool
  /-- The present input signals, and those of the coming steps: each step takes one, and keeps the present ones where
  none is left (R84, R85, D8). -/
  inputs : Inputs
  coming : List Inputs
  /-- The environment's own state, what its devices hold (R12, R114, D3). -/
  env : Nat
  /-- Memory: bytes by key, bank * 2^32 + address, in canonical form (R100). -/
  mem : List Host.Cell
  /-- Delayed writes in flight (R83). -/
  flight : List InFlight
  /-- Stored words that a fetch may still see old (R126). -/
  stale : List StaleWord
  /-- MODEL: what kind of instruction completed last, and what kind is being executed (R582 to R585). -/
  prev : Kind
  current : Kind
  /-- MODEL: the address space of the next fetch is open (R585). -/
  fetchOpen : Bool
  /-- MODEL: how many FPU completions happen before each coming IU step, where the FPU is concurrent (R435). -/
  fpuSteps : List Nat
  /-- MODEL: the counter free values are drawn at. -/
  tick : Nat
deriving DecidableEq, Repr

/-- The reasons for a fault: none. The spec names no condition in which the machine stops: a trap that cannot be taken
puts it in error_mode, which is a state (R530, R531). -/
inductive Fault where
deriving DecidableEq, Repr

/-- The reasons for a refusal. -/
inductive Refusal where
  /-- Raised by the arm of an instruction whose meaning is not written yet. Safe: nothing is claimed of it. -/
  | notModelled (mnemonic : String)
deriving DecidableEq, Repr

/-- What a step or an instruction answers. -/
abbrev Out := Host.Outcome State Fault Refusal

/-- The spec's default parameters (92 part 2): eight windows, an FPU, no coprocessor, no caches, a queue of one entry,
ASIs 8 to 11 one flat memory. DESIGN CHOICE of the spec's examples, log entries 7 and 8. -/
def defaultParams : Params where
  extraWindows := 6
  impl := 0
  ver := 0
  fpuPresent := true
  cpPresent := false
  iuCachePresent := false
  extCachePresent := false
  extraQueue := 0
  fpuConcurrent := false
  cpConcurrent := false
  errorResets := false
  tinyBeforeRounding := true
  temBits := 0b11111#5
  aexcBits := 0b11111#5
  cexcBits := 0b11111#5
  unimplemented := []
  unfinished := []
  leftOut := []
  spaces := [(8#8, 0), (9#8, 0), (10#8, 0), (11#8, 0)]
  devices := []
  faults := []

/-- No kind: the kind of an instruction that no hazard rule names. -/
def Kind.plain : Kind := ⟨false, false, false, false⟩

/-- The state right after reset (R572, R574, R90, D18): S = 1, ET = 0, PC = 0, nPC = 4, annul = 0, execute modes, the queue
empty. Every register the spec leaves undefined at power-up is 0 here, DESIGN CHOICE (unsafe), log entries 1 to 6. -/
def State.reset : State where
  cfg := defaultParams
  globals := Vector.replicate 7 0
  windows := Vector.replicate 512 0
  pc := 0
  npc := 4
  annul := false
  psr := { icc := ⟨false, false, false, false⟩, ec := false, ef := false, pil := 0, s := true, ps := false, et := false,
           cwp := 0 }
  wim := 0
  tba := 0
  tt := 0
  y := 0
  fpu := { f := Vector.replicate 32 0,
           fsr := { rd := 0, rp := 0, tem := 0, au := false, ftt := 0, qne := false, fcc := 0, aexc := 0, cexc := 0 },
           mode := .execute, queue := [] }
  cp := { c := Vector.replicate 32 0, csr := 0, cqAddr := 0, cqInstr := 0, mode := .execute, hidden := 0 }
  iu := .execute
  pbError := false
  inputs := ⟨0, false⟩
  coming := []
  env := 0
  mem := []
  flight := []
  stale := []
  prev := Kind.plain
  current := Kind.plain
  fetchOpen := false
  fpuSteps := []
  tick := 0

end Sys2Proof.Machine
end

