-- ==== Sys2Proof/Machine/Ops.lean ====
section
/-! DEFINITION. The named operations over memory, registers and program counters, free values, delayed writes, and taking
a trap with its counterparts (spec 10, 20, 43 R416, 60 R520 and R530, 70 R572). -/

namespace Sys2Proof.Machine

/-! ### Memory (20 R100 to R111) -/

/-- What a byte of memory that nothing has written reads as. DESIGN CHOICE, unsafe, log entry 6. -/
def unlistedByte : Byte := 0

/-- The byte at a key. -/
def Memory.get (m : List Host.Cell) (k : Nat) : Byte :=
  match m with
  | [] => unlistedByte
  | (a, b) :: rest => if a = k then b else Memory.get rest k

/-- The memory with one byte written, in canonical form again. -/
def Memory.set (m : List Host.Cell) (k : Nat) (b : Byte) : List Host.Cell :=
  match m with
  | [] => if b = unlistedByte then [] else [(k, b)]
  | (a, c) :: rest =>
    if k < a then (if b = unlistedByte then (a, c) :: rest else (k, b) :: (a, c) :: rest)
    else if k = a then (if b = unlistedByte then rest else (k, b) :: rest)
    else (a, c) :: Memory.set rest k b

/-- The canonical form: keys strictly rising, no entry equal to what an unlisted key reads as. -/
def Memory.wf (m : List Host.Cell) : Bool :=
  match m with
  | [] => true
  | (a, b) :: rest => (b != unlistedByte) && rest.all (fun p => decide (a < p.1)) && Memory.wf rest

/-- The word whose most significant byte is at a key (R104, R105). -/
def Memory.word (m : List Host.Cell) (k : Nat) : Word :=
  wordOfBytes (Memory.get m k) (Memory.get m (k + 1)) (Memory.get m (k + 2)) (Memory.get m (k + 3))

/-- The bytes of a word that a mask selects, written at a key: mask bit 3 is the byte at the lowest address (R111). -/
def Memory.setMasked (m : List Host.Cell) (k : Nat) (mask : BitVec 4) (w : Word) : List Host.Cell :=
  let m0 := if mask.getLsbD 3 then Memory.set m k (byteOfWord w 0) else m
  let m1 := if mask.getLsbD 2 then Memory.set m0 (k + 1) (byteOfWord w 1) else m0
  let m2 := if mask.getLsbD 1 then Memory.set m1 (k + 2) (byteOfWord w 2) else m1
  if mask.getLsbD 0 then Memory.set m2 (k + 3) (byteOfWord w 3) else m2

/-- The range signals an exception for an access to the word at an address (D4). -/
def faultsAt (r : FaultRange) (acc : Access) (asi : Byte) (addr : Word) : Bool :=
  (r.asi == asi) && decide (r.first ≤ addr) && decide (addr ≤ r.last) &&
    (match acc with
     | .read => r.onRead
     | .write => r.onWrite
     | .fetch => r.onFetch)

/-- The bank of storage behind an address space (R101, D3). -/
def bankOf (cfg : Params) (asi : Byte) : Option Nat :=
  (cfg.spaces.find? (fun p => p.1 == asi)).map (fun p => p.2)

/-- The address of the word that holds an address (R110). -/
def wordAddress (addr : Word) : Word := addr &&& 0xFFFFFFFC#32

/-- The memory key of an address of a bank. -/
def memoryKey (bank : Nat) (addr : Word) : Nat := bank * 2 ^ 32 + addr.toNat

/-- The range covers the word at an address (R12, D3). -/
def coversDevice (d : DeviceRange) (asi : Byte) (addr : Word) : Bool :=
  (d.asi == asi) && decide (d.first ≤ addr) && decide (addr ≤ d.last)

/-- A device, and no storage, is behind the word that holds an address (R12, R114, D3). -/
def State.onDevice (s : State) (asi : Byte) (addr : Word) : Bool :=
  s.cfg.devices.any (fun d => coversDevice d asi (wordAddress addr))

/-- The memory key of the word of storage an access reaches, or none: a device is there, or the memory system signals an
exception, since the address space does not exist or an exception range covers the word (R110, D3, D4). -/
def State.locate (s : State) (acc : Access) (asi : Byte) (addr : Word) : Option Nat :=
  if s.onDevice asi addr || s.cfg.faults.any (fun r => faultsAt r acc asi (wordAddress addr)) then none
  else (bankOf s.cfg asi).map (fun b => memoryKey b (wordAddress addr))

/-- The environment has answered (R114, D3). -/
def State.answered (s : State) (a : EnvAnswer) : State := { s with env := a.env, coming := a.coming.getD s.coming }

/-- memory_read of R110: the word that holds an address, or a memory exception; the state changes only where a device
answers (D3). The mask says which bytes are asked for. -/
def State.memoryRead (s : State) (acc : Access) (asi : Byte) (addr : Word) (mask : BitVec 4) : State × Option Word :=
  if s.onDevice asi addr then
    let a := Config.envRead s.tick s.env acc asi (wordAddress addr) mask
    (s.answered a, a.data)
  else (s, (s.locate acc asi addr).map (Memory.word s.mem))

/-- Some instruction cache may hold words of memory (R10, R86). -/
def State.cached (s : State) : Bool := s.cfg.iuCachePresent || s.cfg.extCachePresent

/-- The store leaves the word's old contents where a cache may still supply them (R126, D5). -/
def State.noteStale (s : State) (k : Nat) : State :=
  if s.cached then { s with stale := ⟨k, Memory.word s.mem k, false⟩ :: s.stale } else s

/-- memory_write of R111: the masked bytes of a word, of storage or handed to a device (D3), or a memory exception that
changes nothing. -/
def State.memoryWrite (s : State) (asi : Byte) (addr : Word) (mask : BitVec 4) (data : Word) : Option State :=
  if s.onDevice asi addr then
    let a := Config.envWrite s.tick s.env asi (wordAddress addr) mask data
    a.data.map fun _ => s.answered a
  else (s.locate .write asi addr).map fun k => { s.noteStale k with mem := Memory.setMasked s.mem k mask data }

/-- The byte of a word at an address (R110). -/
def selectByte (w : Word) (addr : Word) : Byte := byteOfWord w (addr.toNat % 4)

/-- The halfword of a word at an address (R110). -/
def selectHalf (w : Word) (addr : Word) : BitVec 16 :=
  if addr.getLsbD 1 then w.extractLsb' 0 16 else w.extractLsb' 16 16

/-- The mask of the byte at an address (R111). -/
def byteMask (addr : Word) : BitVec 4 := 0b1000#4 >>> (addr.toNat % 4)

/-- The mask of the halfword at an address (R111). -/
def halfMask (addr : Word) : BitVec 4 := if addr.getLsbD 1 then 0b0011#4 else 0b1100#4

/-- MemReadA of one, two and four bytes (R110), each with the state after the access. -/
def State.readByte (s : State) (asi : Byte) (addr : Word) : State × Option Byte :=
  (s.memoryRead .read asi addr (byteMask addr)).map id (fun r => r.map (fun w => selectByte w addr))

def State.readHalf (s : State) (asi : Byte) (addr : Word) : State × Option (BitVec 16) :=
  (s.memoryRead .read asi addr (halfMask addr)).map id (fun r => r.map (fun w => selectHalf w addr))

def State.readWord (s : State) (asi : Byte) (addr : Word) : State × Option Word :=
  s.memoryRead .read asi addr 0b1111#4

/-- MemWriteA of one, two and four bytes (R111); the value stands in every lane and the mask selects one. -/
def State.writeByte (s : State) (asi : Byte) (addr : Word) (v : Byte) : Option State :=
  s.memoryWrite asi addr (byteMask addr) (v ++ v ++ v ++ v)

def State.writeHalf (s : State) (asi : Byte) (addr : Word) (v : BitVec 16) : Option State :=
  s.memoryWrite asi addr (halfMask addr) (v ++ v)

def State.writeWord (s : State) (asi : Byte) (addr : Word) (v : Word) : Option State :=
  s.memoryWrite asi addr 0b1111#4 v

/-- flush_IU_cache_word of R420: the old contents of the word that holds an address are gone once one more instruction has
completed (D5). -/
def State.flushWord (s : State) (addr : Word) : State :=
  { s with stale := s.stale.map fun e =>
      if e.key % 2 ^ 32 = (wordAddress addr).toNat then { e with flushed := true } else e }

/-! ### Free values -/

/-- A free value of some width. -/
def State.freeBits (s : State) (u : Use) (w : Nat) : BitVec w := BitVec.ofNat w (Config.free s.tick u)

/-- A free choice of two. -/
def State.freeBool (s : State) (u : Use) : Bool := Config.free s.tick u % 2 == 1

/-- A free word-aligned address. -/
def State.freeAddress (s : State) (u : Use) : Word := wordAddress (s.freeBits u 32)

/-! ### Delayed-written fields (43 R416) -/

/-- A bit as a word. -/
def wordOfBool (b : Bool) : Word := (BitVec.ofBool b).setWidth 32

/-- The condition codes as bits 23:20 of the PSR hold them: N, Z, V, C (R45). -/
def iccBits (i : Icc) : BitVec 4 :=
  BitVec.ofBool i.n ++ BitVec.ofBool i.z ++ BitVec.ofBool i.v ++ BitVec.ofBool i.c

/-- The condition codes from their four bits. -/
def iccOfBits (b : BitVec 4) : Icc := ⟨b.getLsbD 3, b.getLsbD 2, b.getLsbD 1, b.getLsbD 0⟩

/-- The value of a field, right-justified in a word. -/
def State.live (s : State) (f : Delayed) : Word :=
  match f with
  | .icc => (iccBits s.psr.icc).setWidth 32
  | .ec => wordOfBool s.psr.ec
  | .ef => wordOfBool s.psr.ef
  | .pil => s.psr.pil.setWidth 32
  | .s => wordOfBool s.psr.s
  | .ps => wordOfBool s.psr.ps
  | .et => wordOfBool s.psr.et
  | .cwp => s.psr.cwp.setWidth 32
  | .wim => s.wim
  | .tba => s.tba.setWidth 32
  | .y => s.y

/-- The old values of a field that may still be seen. -/
def State.olds (s : State) (f : Delayed) : List Word :=
  (s.flight.filter (fun p => p.field == f)).map (fun p => p.old)

/-- What one use of a field sees: its value, or, within three instructions after a delayed write of it, that or an old
value, chosen freely for each use (R416 (b), D16). -/
def State.see (s : State) (u : Use) (f : Delayed) : Word :=
  match s.olds f with
  | [] => s.live f
  | olds => (s.live f :: olds).getD (Config.free s.tick u % (olds.length + 1)) (s.live f)

def State.seeBool (s : State) (u : Use) (f : Delayed) : Bool := (s.see u f).getLsbD 0
def State.seeIcc (s : State) (u : Use) : Icc := iccOfBits ((s.see u .icc).setWidth 4)
def State.seePil (s : State) (u : Use) : BitVec 4 := (s.see u .pil).setWidth 4
def State.seeCwp (s : State) (u : Use) : BitVec 5 := (s.see u .cwp).setWidth 5
def State.seeTba (s : State) (u : Use) : BitVec 20 := (s.see u .tba).setWidth 20

/-- The flight without a field: another writer of the field settles it (R416 (a)). -/
def State.settled (s : State) (f : Delayed) : List InFlight := s.flight.filter (fun p => p.field != f)

/-- Writes at once to a field that may be in flight. -/
def State.putIcc (s : State) (i : Icc) : State :=
  { s with psr := { s.psr with icc := i }, flight := s.settled .icc }
def State.putCwp (s : State) (w : BitVec 5) : State :=
  { s with psr := { s.psr with cwp := w }, flight := s.settled .cwp }
def State.putS (s : State) (b : Bool) : State :=
  { s with psr := { s.psr with s := b }, flight := s.settled .s }
def State.putEt (s : State) (b : Bool) : State :=
  { s with psr := { s.psr with et := b }, flight := s.settled .et }
def State.putY (s : State) (v : Word) : State := { s with y := v, flight := s.settled .y }

/-- The field with a value, right-justified in a word. -/
def State.setLive (s : State) (f : Delayed) (v : Word) : State :=
  match f with
  | .icc => { s with psr := { s.psr with icc := iccOfBits (v.setWidth 4) } }
  | .ec => { s with psr := { s.psr with ec := v.getLsbD 0 } }
  | .ef => { s with psr := { s.psr with ef := v.getLsbD 0 } }
  | .pil => { s with psr := { s.psr with pil := v.setWidth 4 } }
  | .s => { s with psr := { s.psr with s := v.getLsbD 0 } }
  | .ps => { s with psr := { s.psr with ps := v.getLsbD 0 } }
  | .et => { s with psr := { s.psr with et := v.getLsbD 0 } }
  | .cwp => { s with psr := { s.psr with cwp := v.setWidth 5 } }
  | .wim => { s with wim := v }
  | .tba => { s with tba := v.setWidth 20 }
  | .y => { s with y := v }

/-- A delayed write of a field (R416): the new value is in force, and, where it changes the field, the old value may be
seen by uses in the next three instructions. -/
def State.putDelayed (s : State) (f : Delayed) (v : Word) : State :=
  if s.live f = v then s
  else { s.setLive f v with flight := ⟨f, s.live f, 3⟩ :: s.flight }

/-- One instruction later (R416 (a)): an old value that three instructions could see is gone. -/
def ageFlight (l : List InFlight) : List InFlight :=
  (l.filter (fun p => p.left != 0)).map (fun p => { p with left := p.left - 1 })

/-! ### Registers (10 R30 to R35) -/

/-- NWINDOWS (R7). -/
def nwindows (cfg : Params) : Nat := cfg.extraWindows.val + 2

/-- FQ_DEPTH (R11). -/
def queueDepth (cfg : Params) : Nat := cfg.extraQueue + 1

/-- The cell of a windowed register, 8 to 31, of a window (R33). -/
def windowCell (cfg : Params) (w : BitVec 5) (n : Reg) : Fin 512 :=
  ⟨((n.toNat - 8) + 16 * w.toNat) % (16 * nwindows cfg), by
    have h := cfg.extraWindows.isLt
    have := Nat.mod_lt ((n.toNat - 8) + 16 * w.toNat) (y := 16 * nwindows cfg) (by unfold nwindows; omega)
    unfold nwindows at *
    omega⟩

/-- The cell of a global register, 1 to 7. -/
def globalCell (n : Reg) : Fin 7 := ⟨(n.toNat - 1) % 7, Nat.mod_lt _ (by decide)⟩

/-- r_w[n]: register n of window w; r[0] reads 0 (R31, R33). -/
def State.regIn (s : State) (w : BitVec 5) (n : Reg) : Word :=
  if n = 0 then 0
  else if n.toNat < 8 then s.globals.get (globalCell n)
  else s.windows.get (windowCell s.cfg w n)

/-- r_w[n] written; a write of r[0] is discarded (R31, R33). -/
def State.setRegIn (s : State) (w : BitVec 5) (n : Reg) (v : Word) : State :=
  if n = 0 then s
  else if n.toNat < 8 then { s with globals := s.globals.set (globalCell n).val v (globalCell n).isLt }
  else { s with windows := s.windows.set (windowCell s.cfg w n).val v (windowCell s.cfg w n).isLt }

/-- r[n] of the current window, as one use of the CWP sees it. -/
def State.reg (s : State) (u : Use) (n : Reg) : Word := s.regIn (s.seeCwp u) n

/-- r[n] of the current window written, as one use of the CWP sees it. -/
def State.setReg (s : State) (u : Use) (n : Reg) (v : Word) : State := s.setRegIn (s.seeCwp u) n v

/-- The even and the odd register of a pair (R212). -/
def evenOf (r : Reg) : Reg := r &&& 0b11110#5
def oddOf (r : Reg) : Reg := r ||| 0b00001#5

/-- (CWP - 1) mod NWINDOWS and (CWP + 1) mod NWINDOWS (R32, R52). -/
def windowBelow (cfg : Params) (w : BitVec 5) : BitVec 5 := BitVec.ofNat 5 ((w.toNat + nwindows cfg - 1) % nwindows cfg)
def windowAbove (cfg : Params) (w : BitVec 5) : BitVec 5 := BitVec.ofNat 5 ((w.toNat + 1) % nwindows cfg)

/-- f[n] (R73). -/
def State.freg (s : State) (n : Reg) : Word := s.fpu.f.get n.toFin

/-- f[n] written (R73). -/
def State.setFreg (s : State) (n : Reg) (v : Word) : State :=
  { s with fpu := { s.fpu with f := s.fpu.f.set n.toNat v n.isLt } }

/-- c[n] and its write (R79). -/
def State.creg (s : State) (n : Reg) : Word := s.cp.c.get n.toFin
def State.setCreg (s : State) (n : Reg) (v : Word) : State :=
  { s with cp := { s.cp with c := s.cp.c.set n.toNat v n.isLt } }
def State.setCsr (s : State) (v : Word) : State := { s with cp := { s.cp with csr := v } }

/-- The whole PSR from its fields (R45), bits 19:14 zero (D7). -/
def psrWord (cfg : Params) (p : Psr) : Word :=
  cfg.impl ++ cfg.ver ++ iccBits p.icc ++ 0#6 ++ BitVec.ofBool p.ec ++ BitVec.ofBool p.ef ++ p.pil ++
    BitVec.ofBool p.s ++ BitVec.ofBool p.ps ++ BitVec.ofBool p.et ++ p.cwp

/-- The whole TBR (R57). -/
def tbrWord (tba : BitVec 20) (tt : BitVec 8) : Word := tba ++ tt ++ 0#4

/-- The implemented bits of the WIM (R56). -/
def wimMask (cfg : Params) : Word := BitVec.ofNat 32 (2 ^ nwindows cfg - 1)

/-- The whole FSR (R60), reserved bits zero (R65). -/
def fsrWord (r : Fsr) : Word :=
  r.rd ++ r.rp ++ r.tem ++ BitVec.ofBool r.au ++ 0#5 ++ r.ftt ++ BitVec.ofBool r.qne ++ 0#1 ++ r.fcc ++ r.aexc ++ r.cexc

/-- The FSR after LDFSR: every writable field from the word, ftt and qne as they were (R72). -/
def fsrLoad (r : Fsr) (w : Word) : Fsr :=
  { rd := w.extractLsb' 30 2, rp := w.extractLsb' 28 2, tem := w.extractLsb' 23 5, au := w.getLsbD 22,
    ftt := r.ftt, qne := r.qne, fcc := w.extractLsb' 10 2, aexc := w.extractLsb' 5 5, cexc := w.extractLsb' 0 5 }

def State.setFsr (s : State) (r : Fsr) : State := { s with fpu := { s.fpu with fsr := r } }
def State.setFpuMode (s : State) (m : FpuMode) : State := { s with fpu := { s.fpu with mode := m } }
def State.setQueue (s : State) (q : List FqEntry) : State := { s with fpu := { s.fpu with queue := q } }
def State.setPcs (s : State) (pc npc : Word) : State := { s with pc := pc, npc := npc }
def State.setAnnul (s : State) (b : Bool) : State := { s with annul := b }
def State.setTt (s : State) (t : BitVec 8) : State := { s with tt := t }
def State.setCp (s : State) (c : CpState) : State := { s with cp := c }
def State.setFetchOpen (s : State) (b : Bool) : State := { s with fetchOpen := b }

/-! ### Completing an instruction -/

/-- The instruction has completed: it is now the one executed last, and flushed words are fetched new (R126, D5). -/
def State.retire (s : State) : State :=
  { s with prev := s.current, stale := s.stale.filter (fun e => !e.flushed) }

/-- Normal completion: PC <- nPC; nPC <- nPC + 4 (R42). -/
def State.advance (s : State) : State := (s.setPcs s.npc (s.npc + 4)).retire

/-- A delayed control transfer to a target, or past it, with the annul flag set or left (R321). Directly after a conditional
branch the couple's continuation is free (R358 case 6, R584, D15). -/
def State.transfer (s : State) (target : Word) (annul : Bool) : State :=
  let s1 := if annul then s.setAnnul true else s
  (if s.prev.conditional then s1.setPcs (s.freeAddress .couplePc) (s.freeAddress .coupleNpc)
   else s1.setPcs s.npc target).retire

/-! ### Traps (60 R502, R520, R530) -/

/-- The traps (R502). -/
inductive Trap where
  | instructionAccessException | illegalInstruction | privilegedInstruction | fpDisabled | windowOverflow
  | windowUnderflow | memAddressNotAligned | fpException | dataAccessException | tagOverflow | cpDisabled | cpException
  | interruptLevel (n : BitVec 4)
  | trapInstruction (n : BitVec 7)
deriving DecidableEq, Repr

/-- The trap type written to TBR.tt (R502). -/
def trapType (t : Trap) : BitVec 8 :=
  match t with
  | .instructionAccessException => 1
  | .illegalInstruction => 2
  | .privilegedInstruction => 3
  | .fpDisabled => 4
  | .windowOverflow => 5
  | .windowUnderflow => 6
  | .memAddressNotAligned => 7
  | .fpException => 8
  | .dataAccessException => 9
  | .tagOverflow => 10
  | .cpDisabled => 36
  | .cpException => 40
  | .interruptLevel n => 0b0001#4 ++ n
  | .trapInstruction n => 1#1 ++ n

/-- Trap entry, execute_trap (R520): delayed writes complete with it (R416 (c)), and no instruction of a branch couple or
of a JMPL, RETT pair comes before the handler. -/
def State.trapEntry (s : State) (t : Trap) : State :=
  let w := windowBelow s.cfg (s.seeCwp .trapWindow)
  let tbr := tbrWord (s.seeTba .trapBase) (trapType t)
  let s1 := (s.setRegIn w 17 s.pc).setRegIn w 18 s.npc
  { s1 with
    tt := trapType t
    psr := { s.psr with et := false, ps := s.seeBool .trapMode .s, s := true, cwp := w }
    annul := false
    pc := tbr
    npc := tbr + 4
    flight := []
    fetchOpen := false
    prev := { s.prev with conditional := false, jmpl := false } }

/-- The level of bp_reset_in at the next check (R570). -/
def State.resetAhead (s : State) : Bool :=
  match s.coming with
  | [] => s.inputs.resetIn
  | i :: _ => i.resetIn

/-- The processor enters error_mode (R530). -/
def State.enterErrorMode (s : State) : State :=
  { s with iu := .error, fpu := { s.fpu with mode := .error }, pbError := true }

/-- A synchronous, floating-point or coprocessor trap: its entry where traps are enabled, error_mode where they are not
(R520, R530). It is not taken where reset is requested at the check that follows (R570). -/
def State.takeTrap (s : State) (t : Trap) : State :=
  if s.resetAhead then s
  else if s.seeBool .trapEnable .et then s.trapEntry t
  else s.enterErrorMode

/-! ### Reset (70 R570 to R573) -/

/-- The processor enters reset_mode (R570, R571, R530). -/
def State.enterReset (s : State) : State :=
  { s with iu := .reset, fpu := { s.fpu with mode := .reset }, pbError := false }

/-- The reset trap (R572, R573): PS, CWP and r[17], r[18] of the window below are each as they were or as execute_trap
would leave them (D9); the queue is empty and qne is free (U24, log entry 28); delayed writes have taken effect (D16). DESIGN CHOICE where the
spec is silent: no instruction before the reset counts as the predecessor of the first one after it (R90, R582, R583; log
entry 37), and the words a fetch may see old stay as they were (R86, R573; log entry 32). -/
def State.resetTrap (s : State) : State :=
  let below := windowBelow s.cfg s.psr.cwp
  let s1 := if s.freeBool .resetR17 then s.setRegIn below 17 s.pc else s
  let s2 := if s.freeBool .resetR18 then s1.setRegIn below 18 s.npc else s1
  { s2 with
    iu := .execute
    pbError := false
    psr := { s.psr with
      s := true
      et := false
      ps := if s.freeBool .resetPs then s.psr.s else s.psr.ps
      cwp := if s.freeBool .resetCwp then below else s.psr.cwp }
    annul := false
    pc := 0
    npc := 4
    fpu := { s.fpu with mode := .execute, queue := [], fsr := { s.fpu.fsr with qne := s.freeBool .resetQne } }
    cp := Config.cpReset s.cp
    flight := []
    fetchOpen := false
    prev := Kind.plain }

end Sys2Proof.Machine
end

