-- ==== Sys2Proof/Machine/Operands.lean ====
section
/-! DEFINITION. The operand forms: second operand, effective address, address space, shift count, branch targets, alignment and
floating-point register operands (spec 30 R146, R147, 40 R200, R201, 41 R296, 42 R320, 44 R441). -/

namespace Sys2Proof.Machine

/-- op2val: r[rs2], or simm13 sign-extended (R147). -/
def State.op2val (s : State) (src : Operand2) : Word :=
  match src with
  | .reg rs2 => s.reg .rs2 rs2
  | .imm simm13 => simm13.signExtend 32

/-- r[rs1] + op2val: effective addresses, jump targets, trap numbers (R200, R320). -/
def State.ea (s : State) (rs1 : Reg) (src : Operand2) : Word := s.reg .rs1 rs1 + s.op2val src

/-- The effective address of an alternate-space instruction: r[rs1] + r[rs2] (R200). -/
def State.eaAlternate (s : State) (rs1 rs2 : Reg) : Word := s.reg .rs1 rs1 + s.reg .rs2 rs2

/-- The data space of a normal access: 10 for the user, 11 for the supervisor (R102, R201). -/
def State.dataAsi (s : State) : Byte := if s.seeBool .dataSpace .s then 11 else 10

/-- The shift count, 0 to 31: r[rs2][4:0] or shcnt (R296). -/
def State.shiftCount (s : State) (count : ShiftCount) : Nat :=
  match count with
  | .reg rs2 => (s.reg .rs2 rs2).toNat % 32
  | .imm shcnt => shcnt.toNat

/-- The target of a branch: PC + 4 * sign_ext(disp22) (R320). -/
def branchTarget (pc : Word) (disp : BitVec 22) : Word := pc + (disp ++ 0#2).signExtend 32

/-- The target of a CALL: PC + 4 * disp30 (R320). -/
def callTarget (pc : Word) (disp : BitVec 30) : Word := pc + (disp ++ 0#2)

/-- An address is aligned for an access of some bytes (R106). -/
def aligned (addr : Word) (n : Nat) : Bool := addr.toNat % n == 0

/-- The f registers of a double operand (R441). -/
def pairHigh (x : Reg) : Reg := x &&& 0b11110#5
def pairLow (x : Reg) : Reg := x ||| 0b00001#5

/-- The three f registers of an extended operand that are used (R441). -/
def quadE (x : Reg) : Reg := x &&& 0b11100#5
def quadF (x : Reg) : Reg := (x &&& 0b11100#5) ||| 0b00001#5
def quadFLow (x : Reg) : Reg := (x &&& 0b11100#5) ||| 0b00010#5

/-- D(x): a double operand (R441). -/
def State.double (s : State) (x : Reg) : BitVec 64 := s.freg (pairHigh x) ++ s.freg (pairLow x)

/-- X(x): an extended operand (R441). -/
def State.extended (s : State) (x : Reg) : BitVec 96 := s.freg (quadE x) ++ s.freg (quadF x) ++ s.freg (quadFLow x)

/-- D(x) written. -/
def State.setDouble (s : State) (x : Reg) (v : BitVec 64) : State :=
  (s.setFreg (pairHigh x) (v.extractLsb' 32 32)).setFreg (pairLow x) (v.extractLsb' 0 32)

/-- X(x) written; extended-u is left unchanged (R441). -/
def State.setExtended (s : State) (x : Reg) (v : BitVec 96) : State :=
  ((s.setFreg (quadE x) (v.extractLsb' 64 32)).setFreg (quadF x) (v.extractLsb' 32 32)).setFreg (quadFLow x)
    (v.extractLsb' 0 32)

end Sys2Proof.Machine
end

