-- ==== Sys2Proof/Machine/Flags.lean ====
section
/-! DEFINITION. The condition codes of every instruction that writes them, and the tests of every condition
(spec 30 R155 to R157, 41 R262 to R264, R271). -/

namespace Sys2Proof.Machine

/-- The condition codes after an addition (R262). -/
def addFlags (operand1 operand2 result : Word) : Icc :=
  let a := operand1.msb
  let b := operand2.msb
  let r := result.msb
  { n := r, z := result == 0, v := (a && b && !r) || (!a && !b && r), c := (a && b) || (!r && (a || b)) }

/-- The condition codes after a subtraction (R263). -/
def subFlags (operand1 operand2 result : Word) : Icc :=
  let a := operand1.msb
  let b := operand2.msb
  let r := result.msb
  { n := r, z := result == 0, v := (a && !b && !r) || (!a && b && r), c := (!a && b) || (r && (!a || b)) }

/-- The condition codes after a logical operation (R264). -/
def logicFlags (result : Word) : Icc := { n := result.msb, z := result == 0, v := false, c := false }

/-- An operand with a nonzero tag (R271). -/
def tagged (v : Word) : Bool := v.extractLsb' 0 2 != 0

/-- The tests of Bicc and Ticc on icc (R155). -/
def iccNever (_ : Icc) : Bool := false
def iccEqual (i : Icc) : Bool := i.z
def iccLessEqual (i : Icc) : Bool := i.z || (i.n ^^ i.v)
def iccLess (i : Icc) : Bool := i.n ^^ i.v
def iccLessEqualUnsigned (i : Icc) : Bool := i.c || i.z
def iccCarrySet (i : Icc) : Bool := i.c
def iccNegative (i : Icc) : Bool := i.n
def iccOverflowSet (i : Icc) : Bool := i.v
def iccAlways (_ : Icc) : Bool := true
def iccNotEqual (i : Icc) : Bool := !i.z
def iccGreater (i : Icc) : Bool := !(i.z || (i.n ^^ i.v))
def iccGreaterEqual (i : Icc) : Bool := !(i.n ^^ i.v)
def iccGreaterUnsigned (i : Icc) : Bool := !(i.c || i.z)
def iccCarryClear (i : Icc) : Bool := !i.c
def iccPositive (i : Icc) : Bool := !i.n
def iccOverflowClear (i : Icc) : Bool := !i.v

/-- The branch is taken for the condition values listed: FBfcc on fcc (R156: 0 equal, 1 less, 2 greater, 3 unordered), CBccc on
bp_CP_cc (R157). -/
def ccIn (values : List (BitVec 2)) (cc : BitVec 2) : Bool := values.contains cc

end Sys2Proof.Machine
end

