-- ==== Sys2Proof/Machine/CpModes.lean ====
section
/-! DEFINITION. The coprocessor's modes (spec 60 R509, R545, R548): what the coprocessor itself does is opaque (44 R480), but a
pending exception stays until the trap is taken, and exception mode stays until STDCQ has emptied the queue. -/

namespace Sys2Proof

/-- The coprocessor's mode after something it does other than a CPop or an STDCQ, where its own answer asks for a mode: a pending
exception and exception mode stay (R545, R548); an executing coprocessor that has recognised an exception, or asks for another
mode, has an exception pending, since only the trap leads to exception mode. -/
def cpModeAfter (c : CpState) (asked : CpMode) : CpMode :=
  match c.mode with
  | .execute => if Config.cpException c = false ∧ asked = .execute then .execute else .exceptionPending
  | .exceptionPending => .exceptionPending
  | .exception => .exception

/-- The mode after a CPop: as above, but that one in exception mode may raise a further exception, as R543 has it for the FPU
(the only way out beside STDCQ and a reset, R545). DEDUCED, log entry 33. -/
def cpModeAfterCpop (c : CpState) (asked : CpMode) : CpMode :=
  if c.mode = .exception ∧ asked = .exceptionPending then .exceptionPending else cpModeAfter c asked

/-- What the coprocessor does on its own before an IU step, where it is concurrent (R23, R480, R548). -/
def Config.cpStep (n : Nat) (c : CpState) : CpState :=
  { Config.cpOwnStep n c with mode := cpModeAfter c (Config.cpOwnStep n c).mode }

/-- cp_execute of R480: the coprocessor after a CPop, from the instruction word and its address. -/
def Config.cpExecute (c : CpState) (word pc : Word) : CpState :=
  { Config.cpOperation c word pc with mode := cpModeAfterCpop c (Config.cpOperation c word pc).mode }

/-- The coprocessor after a load for it took a data_access_exception (R225), in the mode it was in (R545). -/
def Config.cpLoadTrapped (c : CpState) : CpState :=
  { Config.cpAfterLoadTrap c with mode := cpModeAfter c (Config.cpAfterLoadTrap c).mode }

/-- The coprocessor after STDCQ has stored its queue's front entry (R248): exception mode ends exactly where the queue is
empty now (R545, R548); whether there is a queue, and when it is empty, is the coprocessor's (Config.cpQueueEmpty). -/
def Config.cpStoredQueue (c : CpState) : CpState :=
  let after := Config.cpAfterQueueStore c
  { after with
    mode := if c.mode = .exception then (if Config.cpQueueEmpty after then .execute else .exception)
      else cpModeAfter c after.mode }

end Sys2Proof
end

