-- ==== Sys2Proof/Machine/FpArith.lean ====
section
/-! DEFINITION. The arithmetic of ANSI/IEEE 754-1985 on the three formats, which the spec takes by reference (44 R431): operands are
read as exact numbers, the exact result is computed on Nat and Int, and it is rounded once (R449). Formats: R442 to R444.
Exceptions: 10 R70, 44 R448. PRESUMED where the spec names the standard only; log entries 15 to 19. -/

namespace Sys2Proof.Machine

/-- A floating-point operand or result as a number: a finite one is mant * 2^exp with mant > 0. `unnormal` is an
extended operand with 0 < e < 32767 and j = 0, outside the architecture (R444). -/
inductive FpNum where
  | nan (signaling : Bool)
  | inf (neg : Bool)
  | zero (neg : Bool)
  | finite (neg : Bool) (mant : Nat) (exp : Int)
  | unnormal
deriving DecidableEq, Repr

/-- A format to round to: precision in bits, the exponent of the smallest normalized number and of the largest. -/
structure FpFormat where
  precision : Nat
  emin : Int
  emax : Int
deriving DecidableEq, Repr

/-- Single, double and extended (R442 to R444). -/
def formatSingle : FpFormat := ⟨24, -126, 127⟩
def formatDouble : FpFormat := ⟨53, -1022, 1023⟩
def formatExtended : FpFormat := ⟨64, -16383, 16383⟩

/-! ### Reading operands -/

/-- A single (R442). -/
def unpackSingle (w : Word) : FpNum :=
  let neg := w.msb
  let e := (w.extractLsb' 23 8).toNat
  let f := (w.extractLsb' 0 23).toNat
  if e = 255 then (if f = 0 then .inf neg else .nan (!w.getLsbD 22))
  else if e = 0 then (if f = 0 then .zero neg else .finite neg f (-149))
  else .finite neg (f + 2 ^ 23) ((e : Int) - 150)

/-- A double (R443). -/
def unpackDouble (d : BitVec 64) : FpNum :=
  let neg := d.msb
  let e := (d.extractLsb' 52 11).toNat
  let f := (d.extractLsb' 0 52).toNat
  if e = 2047 then (if f = 0 then .inf neg else .nan (!d.getLsbD 51))
  else if e = 0 then (if f = 0 then .zero neg else .finite neg f (-1074))
  else .finite neg (f + 2 ^ 52) ((e : Int) - 1075)

/-- An extended (R444): s, e (15 bits), 16 unused bits, j, f (63 bits). -/
def unpackExtended (x : BitVec 96) : FpNum :=
  let neg := x.msb
  let e := (x.extractLsb' 80 15).toNat
  let j := x.getLsbD 63
  let f := (x.extractLsb' 0 63).toNat
  if e = 32767 then (if f = 0 then .inf neg else .nan (!x.getLsbD 62))
  else if j then .finite neg (f + 2 ^ 63) ((e : Int) - 16446)
  else if e = 0 then (if f = 0 then .zero neg else .finite neg f (-16446))
  else .unnormal

/-- A 32-bit signed integer (R445). -/
def unpackInteger (w : Word) : FpNum :=
  if w.toInt = 0 then .zero false else .finite (decide (w.toInt < 0)) w.toInt.natAbs 0

/-- The operand is denormalized in its format (R64, U13). -/
def subnormalSingle (w : Word) : Bool := (w.extractLsb' 23 8 == 0) && (w.extractLsb' 0 23 != 0)
def subnormalDouble (d : BitVec 64) : Bool := (d.extractLsb' 52 11 == 0) && (d.extractLsb' 0 52 != 0)
def subnormalExtended (x : BitVec 96) : Bool := (x.extractLsb' 80 15 == 0) && (x.extractLsb' 0 64 != 0) && !x.getLsbD 63

/-! ### Exact operations -/

/-- An exact result, before rounding: a NaN with whether the operation was invalid, an infinity with whether it came of a
division by zero, a zero, or mant * 2^exp (mant > 0). -/
inductive Exact where
  | nan (invalid : Bool)
  | inf (neg : Bool) (divideByZero : Bool)
  | zero (neg : Bool)
  | value (neg : Bool) (mant : Nat) (exp : Int)
deriving DecidableEq, Repr

/-- The answer to NaN operands: invalid if one is signaling (R448). -/
def nanOf (a b : FpNum) : Option Exact :=
  match a, b with
  | .nan x, .nan y => some (.nan (x || y))
  | .nan x, _ => some (.nan x)
  | _, .nan y => some (.nan y)
  | _, _ => none

/-- mant * 2^exp as an integer at a lower exponent. -/
def scaled (neg : Bool) (mant : Nat) (exp low : Int) : Int :=
  let m : Int := (mant * 2 ^ (exp - low).toNat : Nat)
  if neg then -m else m

/-- The sum of two finite numbers; an exact zero is +0, or -0 when rounding toward minus infinity (R471). -/
def sumFinite (rd : BitVec 2) (na : Bool) (ma : Nat) (ea : Int) (nb : Bool) (mb : Nat) (eb : Int) : Exact :=
  let low := min ea eb
  let t := scaled na ma ea low + scaled nb mb eb low
  if t = 0 then .zero (rd == 3) else .value (decide (t < 0)) t.natAbs low

/-- Addition (R496): infinities of opposite signs are invalid (R70). -/
def exactAdd (rd : BitVec 2) (a b : FpNum) : Exact :=
  match nanOf a b with
  | some x => x
  | none =>
    match a, b with
    | .inf x, .inf y => if x = y then .inf x false else .nan true
    | .inf x, _ => .inf x false
    | _, .inf y => .inf y false
    | .zero x, .zero y => .zero (if x = y then x else rd == 3)
    | .zero _, .finite n m e => .value n m e
    | .finite n m e, .zero _ => .value n m e
    | .finite na ma ea, .finite nb mb eb => sumFinite rd na ma ea nb mb eb
    | _, _ => .nan false

/-- The number with its sign complemented; a NaN stays what it is. -/
def negate (a : FpNum) : FpNum :=
  match a with
  | .inf n => .inf (!n)
  | .zero n => .zero (!n)
  | .finite n m e => .finite (!n) m e
  | x => x

/-- Subtraction: fs1 - fs2 (R496). -/
def exactSub (rd : BitVec 2) (a b : FpNum) : Exact := exactAdd rd a (negate b)

/-- Multiplication (R497): 0 * infinity is invalid (R448). -/
def exactMul (a b : FpNum) : Exact :=
  match nanOf a b with
  | some x => x
  | none =>
    match a, b with
    | .inf _, .zero _ => .nan true
    | .zero _, .inf _ => .nan true
    | .inf x, .inf y => .inf (x ^^ y) false
    | .inf x, .finite n _ _ => .inf (x ^^ n) false
    | .finite n _ _, .inf y => .inf (n ^^ y) false
    | .zero x, .zero y => .zero (x ^^ y)
    | .zero x, .finite n _ _ => .zero (x ^^ n)
    | .finite n _ _, .zero y => .zero (n ^^ y)
    | .finite na ma ea, .finite nb mb eb => .value (na ^^ nb) (ma * mb) (ea + eb)
    | _, _ => .nan false

/-- A number of bits. -/
def bitLength (n : Nat) : Nat := if n = 0 then 0 else Nat.log2 n + 1

/-- A mantissa with one more bit below it, set where something nonzero was cut off: it rounds as the exact value does, to
any precision at least two bits shorter. -/
def jam (mant : Nat) (inexact : Bool) : Nat := 2 * mant + (if inexact then 1 else 0)

/-- The quotient of two finite numbers to at least 67 bits. -/
def quotientFinite (neg : Bool) (ma : Nat) (ea : Int) (mb : Nat) (eb : Int) : Exact :=
  let k := 67 + bitLength mb - bitLength ma
  let num := ma * 2 ^ k
  .value neg (jam (num / mb) (num % mb != 0)) (ea - eb - (k : Int) - 1)

/-- Division: fs1 / fs2 (R497): 0/0 and infinity/infinity are invalid, X/0 is division by zero (R70). -/
def exactDiv (a b : FpNum) : Exact :=
  match nanOf a b with
  | some x => x
  | none =>
    match a, b with
    | .inf _, .inf _ => .nan true
    | .zero _, .zero _ => .nan true
    | .inf x, .zero y => .inf (x ^^ y) false
    | .inf x, .finite n _ _ => .inf (x ^^ n) false
    | .finite n _ _, .inf y => .zero (n ^^ y)
    | .zero x, .inf y => .zero (x ^^ y)
    | .zero x, .finite n _ _ => .zero (x ^^ n)
    | .finite n _ _, .zero y => .inf (n ^^ y) true
    | .finite na ma ea, .finite nb mb eb => quotientFinite (na ^^ nb) ma ea mb eb
    | _, _ => .nan false

/-- The integer square root, from the bit of a weight down: the largest root ≥ acc, of acc's form, whose square is at
most n. -/
def rootFrom (n : Nat) (bits : Nat) (acc : Nat) : Nat :=
  match bits with
  | 0 => acc
  | b + 1 => rootFrom n b (if (acc + 2 ^ b) * (acc + 2 ^ b) ≤ n then acc + 2 ^ b else acc)

/-- The integer square root. -/
def natRoot (n : Nat) : Nat := rootFrom n (bitLength n / 2 + 1) 0

/-- The square root of a positive finite number to at least 67 bits. -/
def rootFinite (mant : Nat) (exp : Int) : Exact :=
  let k := 134 - bitLength mant
  let k2 := if (exp - (k : Int)) % 2 = 0 then k else k + 1
  let n := mant * 2 ^ k2
  let r := natRoot n
  .value false (jam r (r * r != n)) ((exp - (k2 : Int)) / 2 - 1)

/-- Square root (R495): of a number less than zero it is invalid; of a zero it is that zero (R465). -/
def exactSqrt (a : FpNum) : Exact :=
  match a with
  | .nan x => .nan x
  | .inf n => if n then .nan true else .inf false false
  | .zero n => .zero n
  | .finite n m e => if n then .nan true else rootFinite m e
  | .unnormal => .nan false

/-- A conversion keeps the number (R490, R493). -/
def exactConvert (a : FpNum) : Exact :=
  match a with
  | .nan x => .nan x
  | .inf n => .inf n false
  | .zero n => .zero n
  | .finite n m e => .value n m e
  | .unnormal => .nan false

/-! ### Rounding (R449) -/

/-- A mantissa cut to a multiple of 2^shift and rounded, and whether anything was lost. RD: 0 nearest, ties to even; 1 toward
0; 2 toward plus infinity; 3 toward minus infinity (R61). -/
def roundShift (rd : BitVec 2) (neg : Bool) (mant shift : Nat) : Nat × Bool :=
  let m := mant / 2 ^ shift
  let r := mant % 2 ^ shift
  let up :=
    match rd with
    | 0#2 => decide (2 * r > 2 ^ shift) || (decide (2 * r = 2 ^ shift) && decide (m % 2 = 1))
    | 1#2 => false
    | 2#2 => !neg && decide (r ≠ 0)
    | _ => neg && decide (r ≠ 0)
  (if up then m + 1 else m, decide (r ≠ 0))

/-- mant * 2^exp as a multiple of 2^q, rounded. -/
def roundAt (rd : BitVec 2) (neg : Bool) (mant : Nat) (exp q : Int) : Nat × Bool :=
  if q ≤ exp then (mant * 2 ^ (exp - q).toNat, false) else roundShift rd neg mant (q - exp).toNat

/-- A rounded result with the exceptions of rounding. `tiny`: it is smaller than the smallest normalized number. -/
structure Rounded where
  value : FpNum
  overflow : Bool
  tiny : Bool
  inexact : Bool
deriving DecidableEq, Repr

/-- What an overflow delivers: infinity or the largest number, by RD and sign. -/
def overflowValue (fmt : FpFormat) (rd : BitVec 2) (neg : Bool) : FpNum :=
  let toInf :=
    match rd with
    | 0#2 => true
    | 1#2 => false
    | 2#2 => !neg
    | _ => neg
  if toInf then .inf neg else .finite neg (2 ^ fmt.precision - 1) (fmt.emax - ((fmt.precision : Int) - 1))

/-- Rounds mant * 2^exp (mant > 0) to a format. -/
def roundTo (fmt : FpFormat) (rd : BitVec 2) (tinyBefore : Bool) (neg : Bool) (mant : Nat) (exp : Int) : Rounded :=
  let e := exp + (Nat.log2 mant : Int)
  let p1 : Int := (fmt.precision : Int) - 1
  let q := max e fmt.emin - p1
  let (m, inexact) := roundAt rd neg mant exp q
  let free := (roundAt rd neg mant exp (e - p1)).1
  let tiny := if tinyBefore then decide (e < fmt.emin) else decide ((Nat.log2 free : Int) + (e - p1) < fmt.emin)
  if m = 0 then { value := .zero neg, overflow := false, tiny := tiny, inexact := inexact }
  else if (Nat.log2 m : Int) + q > fmt.emax then
    { value := overflowValue fmt rd neg, overflow := true, tiny := false, inexact := true }
  else { value := .finite neg m q, overflow := false, tiny := tiny, inexact := inexact }

/-! ### Writing results -/

/-- The exponent field and fraction of mant * 2^exp in a format whose smallest exponent is 2^low for its last bit: the mantissa is
brought to exactly `precision` bits, or fewer at the lowest exponent. -/
def fieldsOf (fmt : FpFormat) (mant : Nat) (exp : Int) : Nat × Nat :=
  let p1 : Int := (fmt.precision : Int) - 1
  let q := max (exp + (Nat.log2 mant : Int)) fmt.emin - p1
  let m := if q ≤ exp then mant * 2 ^ (exp - q).toNat else mant / 2 ^ (q - exp).toNat
  let e := (q + p1 - fmt.emin).toNat
  (e, m)

/-- A single (R442); a NaN is any quiet NaN, from the free bits (U16). -/
def packSingle (free : BitVec 32) (v : FpNum) : Word :=
  match v with
  | .nan _ | .unnormal => free ||| 0x7FC00000#32
  | .inf n => BitVec.ofBool n ++ 0xFF#8 ++ 0#23
  | .zero n => BitVec.ofBool n ++ 0#31
  | .finite n mant exp =>
    let (e, m) := fieldsOf formatSingle mant exp
    BitVec.ofBool n ++ BitVec.ofNat 8 (if m < 2 ^ 23 then 0 else e + 1) ++ BitVec.ofNat 23 m

/-- A double (R443); a NaN is any quiet NaN, from the free bits (U16). -/
def packDouble (free : BitVec 64) (v : FpNum) : BitVec 64 :=
  match v with
  | .nan _ | .unnormal => free ||| 0x7FF8000000000000#64
  | .inf n => BitVec.ofBool n ++ 0x7FF#11 ++ 0#52
  | .zero n => BitVec.ofBool n ++ 0#63
  | .finite n mant exp =>
    let (e, m) := fieldsOf formatDouble mant exp
    BitVec.ofBool n ++ BitVec.ofNat 11 (if m < 2 ^ 52 then 0 else e + 1) ++ BitVec.ofNat 52 m

/-- An extended (R444), its 16 unused bits 0; a NaN is any quiet NaN, and the j of an infinity is not given: both from the
free bits (U16, log entry 16). -/
def packExtended (free : BitVec 96) (v : FpNum) : BitVec 96 :=
  match v with
  | .nan _ | .unnormal => (free ||| 0x7FFF00004000000000000000#96) &&& 0xFFFF0000FFFFFFFFFFFFFFFF#96
  | .inf n => BitVec.ofBool n ++ 0x7FFF#15 ++ 0#16 ++ free.extractLsb' 63 1 ++ 0#63
  | .zero n => BitVec.ofBool n ++ 0#95
  | .finite n mant exp =>
    let (e, m) := fieldsOf formatExtended mant exp
    BitVec.ofBool n ++ BitVec.ofNat 15 e ++ 0#16 ++ BitVec.ofNat 64 m

/-! ### Integers and comparison -/

/-- A float to a 32-bit integer, truncated toward zero (R492): the integer and whether a fraction was lost, or none where
the operation is invalid (R448). -/
def truncated (a : FpNum) : Option (Word × Bool) :=
  match a with
  | .zero _ => some (0, false)
  | .finite n m e =>
    let t := if 0 ≤ e then m * 2 ^ e.toNat else m / 2 ^ (-e).toNat
    let lost := if 0 ≤ e then false else decide (m % 2 ^ (-e).toNat ≠ 0)
    let v : Int := if n then -(t : Int) else (t : Int)
    if -(2 ^ 31) ≤ v ∧ v < 2 ^ 31 then some (BitVec.ofInt 32 v, lost) else none
  | _ => none

/-- A number is a NaN, a signaling NaN. -/
def isNan (a : FpNum) : Bool :=
  match a with
  | .nan _ => true
  | _ => false
def isSignaling (a : FpNum) : Bool :=
  match a with
  | .nan x => x
  | _ => false

/-- The sign of a comparison of numbers that are no NaN: less, equal, greater. +0 equals -0 (R498). -/
def compareNumbers (a b : FpNum) : Ordering :=
  match a, b with
  | .inf x, .inf y => if x = y then .eq else if x then .lt else .gt
  | .inf x, _ => if x then .lt else .gt
  | _, .inf y => if y then .gt else .lt
  | .zero _, .zero _ => .eq
  | .zero _, .finite n _ _ => if n then .gt else .lt
  | .finite n _ _, .zero _ => if n then .lt else .gt
  | .finite na ma ea, .finite nb mb eb =>
    let low := min ea eb
    compare (scaled na ma ea low) (scaled nb mb eb low)
  | _, _ => .eq

/-- fcc of a comparison: 0 equal, 1 less, 2 greater, 3 unordered (R68, R498). -/
def conditionOf (a b : FpNum) : BitVec 2 :=
  if isNan a || isNan b then 3
  else
    match compareNumbers a b with
    | .eq => 0
    | .lt => 1
    | .gt => 2

end Sys2Proof.Machine
end

