-- ==== Sys2Proof/Machine/Fpu.lean ====
section
/-! DEFINITION. The floating-point unit: what each FPop computes, completion of the queue's front entry, waiting for it, the
dispatch of floating-point instructions and the mode machine (spec 44 R432 to R447, R450 to R498, 60 R540 to R546). -/

namespace Sys2Proof.Machine

/-! ### What an FPop computes (44 R450 to R486) -/

/-- Where an FPop's result goes: an f register, a pair, a quadruple, fcc, or an f register without touching the FSR (the
moves, R494). -/
inductive FpResult where
  | single (w : Word)
  | double (d : BitVec 64)
  | extended (x : BitVec 96)
  | fcc (c : BitVec 2)
  | move (w : Word)
deriving DecidableEq, Repr

/-- The operands an FPop read, its result, and the exceptions it generated (texc: nv, of, uf, dz, nx; R431). -/
structure FpAnswer where
  a : Nat
  b : Nat
  result : FpResult
  texc : BitVec 5
deriving DecidableEq, Repr

/-- texc from its five exceptions (R431). -/
def exceptions (nv ofl ufl dz nx : Bool) : BitVec 5 :=
  BitVec.ofBool nv ++ BitVec.ofBool ofl ++ BitVec.ofBool ufl ++ BitVec.ofBool dz ++ BitVec.ofBool nx

/-- The precision of a result. -/
inductive Dest where
  | single | double | extended
deriving DecidableEq, Repr

/-- An extended result of the operation, rounded to the precision of a shorter format, is held to that format's exponent range
too: FdTOx, which can overflow (R459); FADDx, FSUBx, FMULx and FDIVx, of which the spec does not say it, freely; no other
(R448, R467). Log entry 19. -/
def narrowRange (fn : FpFn) (free : Bool) : Bool :=
  match fn with
  | .fdtox => true
  | .faddx | .fsubx | .fmulx | .fdivx => free
  | _ => false

/-- The format a result is rounded to: an extended one to the precision RP selects (R62, R449), its exponent range that of the
shorter format, or the extended one. DESIGN CHOICE, log entry 19: with the extended range kept, a tiny result is rounded as a
denormalized number of a format with 24 or 53 bits and that range, to a multiple of 2^(-16383-23) or 2^(-16383-52). -/
def roundingFormat (d : Dest) (rp : BitVec 2) (narrow : Bool) : FpFormat :=
  match d with
  | .single => formatSingle
  | .double => formatDouble
  | .extended =>
    if rp = 1 then (if narrow then formatSingle else { formatExtended with precision := 24 })
    else if rp = 2 then (if narrow then formatDouble else { formatExtended with precision := 53 })
    else formatExtended

/-- The result bits of a number. -/
def State.packed (s : State) (d : Dest) (v : FpNum) : FpResult :=
  match d with
  | .single => .single (packSingle (s.freeBits .nanBits 32) v)
  | .double => .double (packDouble (s.freeBits .nanBits 64) v)
  | .extended => .extended (packExtended (s.freeBits .nanBits 96) v)

/-- The result bits of an open answer. -/
def openResult (d : Dest) (o : OpenAnswer) : FpResult :=
  match d with
  | .single => .single (o.bits.setWidth 32)
  | .double => .double (o.bits.setWidth 64)
  | .extended => .extended o.bits

/-- What of an operation is open before its exact result is known: an unnormal operand (R444), or FSR.AU with a denormalized
one (U13). -/
def openOperands (au unnormal subnormal : Bool) : Option OpenCase :=
  if unnormal then some .unnormal else if au && subnormal then some .abruptUnderflow else none

/-- The arithmetic's answer in an open case. -/
def State.openAnswer (s : State) (c : OpenCase) (fn : FpFn) (a b : Nat) : OpenAnswer :=
  Config.openArith c s.tick fn s.fpu.fsr.rd a b

/-- An exact result rounded and written in a format, with its exceptions (R70, R449); open with RP = 3 (U14) and, with AU = 1,
where it is tiny (U13). -/
def State.rounded (s : State) (fn : FpFn) (d : Dest) (a b : Nat) (x : Exact) : FpAnswer :=
  match x with
  | .nan invalid => ⟨a, b, s.packed d (.nan false), exceptions invalid false false false false⟩
  | .inf n dz => ⟨a, b, s.packed d (.inf n), exceptions false false false dz false⟩
  | .zero n => ⟨a, b, s.packed d (.zero n), 0⟩
  | .value n m e =>
    let fsr := s.fpu.fsr
    let narrow := narrowRange fn (s.freeBool .precisionRange)
    let r := roundTo (roundingFormat d fsr.rp narrow) fsr.rd s.cfg.tinyBeforeRounding n m e
    if d = .extended ∧ fsr.rp = 3 then
      let o := s.openAnswer .reservedPrecision fn a b
      ⟨a, b, openResult d o, o.texc⟩
    else if fsr.au && r.tiny then
      let o := s.openAnswer .abruptUnderflow fn a b
      ⟨a, b, openResult d o, o.texc⟩
    else ⟨a, b, s.packed d r.value, exceptions false r.overflow (r.tiny && r.inexact) false r.inexact⟩

/-- The answer of an operation from its operands and its exact result. -/
def State.arith (s : State) (fn : FpFn) (d : Dest) (a b : Nat) (unnormal subnormal : Bool) (x : Exact) : FpAnswer :=
  match openOperands s.fpu.fsr.au unnormal subnormal with
  | some c => let o := s.openAnswer c fn a b; ⟨a, b, openResult d o, o.texc⟩
  | none => s.rounded fn d a b x

/-- Operations on two singles, doubles and extendeds. -/
def State.arithSingles (s : State) (fn : FpFn) (rs1 rs2 : Reg) (op : FpNum → FpNum → Exact) : FpAnswer :=
  let a := s.freg rs1
  let b := s.freg rs2
  s.arith fn .single a.toNat b.toNat false (subnormalSingle a || subnormalSingle b) (op (unpackSingle a) (unpackSingle b))
def State.arithDoubles (s : State) (fn : FpFn) (rs1 rs2 : Reg) (op : FpNum → FpNum → Exact) : FpAnswer :=
  let a := s.double rs1
  let b := s.double rs2
  s.arith fn .double a.toNat b.toNat false (subnormalDouble a || subnormalDouble b) (op (unpackDouble a) (unpackDouble b))
def State.arithExtendeds (s : State) (fn : FpFn) (rs1 rs2 : Reg) (op : FpNum → FpNum → Exact) : FpAnswer :=
  let a := s.extended rs1
  let b := s.extended rs2
  s.arith fn .extended a.toNat b.toNat (decide (unpackExtended a = .unnormal) || decide (unpackExtended b = .unnormal))
    (subnormalExtended a || subnormalExtended b) (op (unpackExtended a) (unpackExtended b))

/-- Operations on one operand, a single, a double, an extended, an integer. -/
def State.arithSingle (s : State) (fn : FpFn) (d : Dest) (rs2 : Reg) (op : FpNum → Exact) : FpAnswer :=
  let a := s.freg rs2
  s.arith fn d a.toNat 0 false (subnormalSingle a) (op (unpackSingle a))
def State.arithDouble (s : State) (fn : FpFn) (d : Dest) (rs2 : Reg) (op : FpNum → Exact) : FpAnswer :=
  let a := s.double rs2
  s.arith fn d a.toNat 0 false (subnormalDouble a) (op (unpackDouble a))
def State.arithExtended (s : State) (fn : FpFn) (d : Dest) (rs2 : Reg) (op : FpNum → Exact) : FpAnswer :=
  let a := s.extended rs2
  s.arith fn d a.toNat 0 (decide (unpackExtended a = .unnormal)) (subnormalExtended a) (op (unpackExtended a))
def State.arithInteger (s : State) (fn : FpFn) (d : Dest) (rs2 : Reg) : FpAnswer :=
  let a := s.freg rs2
  s.arith fn d a.toNat 0 false false (exactConvert (unpackInteger a))

/-- A float to an integer (R492): an invalid operation delivers any word (U15). -/
def State.toInteger (s : State) (fn : FpFn) (a : Nat) (unnormal subnormal : Bool) (v : FpNum) : FpAnswer :=
  match openOperands s.fpu.fsr.au unnormal subnormal with
  | some c => let o := s.openAnswer c fn a 0; ⟨a, 0, .single (o.bits.setWidth 32), o.texc⟩
  | none =>
    match truncated v with
    | some (w, lost) => ⟨a, 0, .single w, exceptions false false false false lost⟩
    | none => ⟨a, 0, .single (s.freeBits .intBits 32), exceptions true false false false false⟩

/-- A comparison (R498): invalid for a signaling NaN, and, where it causes an exception if unordered, for any NaN. -/
def State.compareAnswer (s : State) (fn : FpFn) (unordered : Bool) (a b : Nat) (unnormal subnormal : Bool) (x y : FpNum) :
    FpAnswer :=
  match openOperands s.fpu.fsr.au unnormal subnormal with
  | some c => let o := s.openAnswer c fn a b; ⟨a, b, .fcc o.fcc, o.texc⟩
  | none =>
    let nv := if unordered then isNan x || isNan y else isSignaling x || isSignaling y
    ⟨a, b, .fcc (conditionOf x y), exceptions nv false false false false⟩
def State.compareSingles (s : State) (fn : FpFn) (unordered : Bool) (rs1 rs2 : Reg) : FpAnswer :=
  let a := s.freg rs1
  let b := s.freg rs2
  s.compareAnswer fn unordered a.toNat b.toNat false (subnormalSingle a || subnormalSingle b) (unpackSingle a)
    (unpackSingle b)
def State.compareDoubles (s : State) (fn : FpFn) (unordered : Bool) (rs1 rs2 : Reg) : FpAnswer :=
  let a := s.double rs1
  let b := s.double rs2
  s.compareAnswer fn unordered a.toNat b.toNat false (subnormalDouble a || subnormalDouble b) (unpackDouble a)
    (unpackDouble b)
def State.compareExtendeds (s : State) (fn : FpFn) (unordered : Bool) (rs1 rs2 : Reg) : FpAnswer :=
  let a := s.extended rs1
  let b := s.extended rs2
  s.compareAnswer fn unordered a.toNat b.toNat
    (decide (unpackExtended a = .unnormal) || decide (unpackExtended b = .unnormal))
    (subnormalExtended a || subnormalExtended b) (unpackExtended a) (unpackExtended b)

/-- What each FPop computes from its registers: R450 to R486, one each. -/
def answerFitos (s : State) (rs2 : Reg) : FpAnswer := s.arithInteger .fitos .single rs2
def answerFitod (s : State) (rs2 : Reg) : FpAnswer := s.arithInteger .fitod .double rs2
def answerFitox (s : State) (rs2 : Reg) : FpAnswer := s.arithInteger .fitox .extended rs2
def answerFstoi (s : State) (rs2 : Reg) : FpAnswer :=
  s.toInteger .fstoi (s.freg rs2).toNat false (subnormalSingle (s.freg rs2)) (unpackSingle (s.freg rs2))
def answerFdtoi (s : State) (rs2 : Reg) : FpAnswer :=
  s.toInteger .fdtoi (s.double rs2).toNat false (subnormalDouble (s.double rs2)) (unpackDouble (s.double rs2))
def answerFxtoi (s : State) (rs2 : Reg) : FpAnswer :=
  s.toInteger .fxtoi (s.extended rs2).toNat (decide (unpackExtended (s.extended rs2) = .unnormal))
    (subnormalExtended (s.extended rs2)) (unpackExtended (s.extended rs2))
def answerFstod (s : State) (rs2 : Reg) : FpAnswer := s.arithSingle .fstod .double rs2 exactConvert
def answerFstox (s : State) (rs2 : Reg) : FpAnswer := s.arithSingle .fstox .extended rs2 exactConvert
def answerFdtos (s : State) (rs2 : Reg) : FpAnswer := s.arithDouble .fdtos .single rs2 exactConvert
def answerFdtox (s : State) (rs2 : Reg) : FpAnswer := s.arithDouble .fdtox .extended rs2 exactConvert
def answerFxtos (s : State) (rs2 : Reg) : FpAnswer := s.arithExtended .fxtos .single rs2 exactConvert
def answerFxtod (s : State) (rs2 : Reg) : FpAnswer := s.arithExtended .fxtod .double rs2 exactConvert
def answerFmovs (s : State) (rs2 : Reg) : FpAnswer := ⟨(s.freg rs2).toNat, 0, .move (s.freg rs2), 0⟩
def answerFnegs (s : State) (rs2 : Reg) : FpAnswer := ⟨(s.freg rs2).toNat, 0, .move (s.freg rs2 ^^^ 0x80000000#32), 0⟩
def answerFabss (s : State) (rs2 : Reg) : FpAnswer := ⟨(s.freg rs2).toNat, 0, .move (s.freg rs2 &&& 0x7FFFFFFF#32), 0⟩
def answerFsqrts (s : State) (rs2 : Reg) : FpAnswer := s.arithSingle .fsqrts .single rs2 exactSqrt
def answerFsqrtd (s : State) (rs2 : Reg) : FpAnswer := s.arithDouble .fsqrtd .double rs2 exactSqrt
def answerFsqrtx (s : State) (rs2 : Reg) : FpAnswer := s.arithExtended .fsqrtx .extended rs2 exactSqrt
def answerFadds (s : State) (rs1 rs2 : Reg) : FpAnswer := s.arithSingles .fadds rs1 rs2 (exactAdd s.fpu.fsr.rd)
def answerFaddd (s : State) (rs1 rs2 : Reg) : FpAnswer := s.arithDoubles .faddd rs1 rs2 (exactAdd s.fpu.fsr.rd)
def answerFaddx (s : State) (rs1 rs2 : Reg) : FpAnswer := s.arithExtendeds .faddx rs1 rs2 (exactAdd s.fpu.fsr.rd)
def answerFsubs (s : State) (rs1 rs2 : Reg) : FpAnswer := s.arithSingles .fsubs rs1 rs2 (exactSub s.fpu.fsr.rd)
def answerFsubd (s : State) (rs1 rs2 : Reg) : FpAnswer := s.arithDoubles .fsubd rs1 rs2 (exactSub s.fpu.fsr.rd)
def answerFsubx (s : State) (rs1 rs2 : Reg) : FpAnswer := s.arithExtendeds .fsubx rs1 rs2 (exactSub s.fpu.fsr.rd)
def answerFmuls (s : State) (rs1 rs2 : Reg) : FpAnswer := s.arithSingles .fmuls rs1 rs2 exactMul
def answerFmuld (s : State) (rs1 rs2 : Reg) : FpAnswer := s.arithDoubles .fmuld rs1 rs2 exactMul
def answerFmulx (s : State) (rs1 rs2 : Reg) : FpAnswer := s.arithExtendeds .fmulx rs1 rs2 exactMul
def answerFdivs (s : State) (rs1 rs2 : Reg) : FpAnswer := s.arithSingles .fdivs rs1 rs2 exactDiv
def answerFdivd (s : State) (rs1 rs2 : Reg) : FpAnswer := s.arithDoubles .fdivd rs1 rs2 exactDiv
def answerFdivx (s : State) (rs1 rs2 : Reg) : FpAnswer := s.arithExtendeds .fdivx rs1 rs2 exactDiv
def answerFcmps (s : State) (rs1 rs2 : Reg) : FpAnswer := s.compareSingles .fcmps false rs1 rs2
def answerFcmpd (s : State) (rs1 rs2 : Reg) : FpAnswer := s.compareDoubles .fcmpd false rs1 rs2
def answerFcmpx (s : State) (rs1 rs2 : Reg) : FpAnswer := s.compareExtendeds .fcmpx false rs1 rs2
def answerFcmpes (s : State) (rs1 rs2 : Reg) : FpAnswer := s.compareSingles .fcmpes true rs1 rs2
def answerFcmped (s : State) (rs1 rs2 : Reg) : FpAnswer := s.compareDoubles .fcmped true rs1 rs2
def answerFcmpex (s : State) (rs1 rs2 : Reg) : FpAnswer := s.compareExtendeds .fcmpex true rs1 rs2

/-- What an operation of the FPU computes; none for an opf that is not assigned. -/
def fpAnswer (fn : FpFn) (s : State) (rs1 rs2 : Reg) : Option FpAnswer :=
  match fn with
  | .fitos => some (answerFitos s rs2)
  | .fitod => some (answerFitod s rs2)
  | .fitox => some (answerFitox s rs2)
  | .fstoi => some (answerFstoi s rs2)
  | .fdtoi => some (answerFdtoi s rs2)
  | .fxtoi => some (answerFxtoi s rs2)
  | .fstod => some (answerFstod s rs2)
  | .fstox => some (answerFstox s rs2)
  | .fdtos => some (answerFdtos s rs2)
  | .fdtox => some (answerFdtox s rs2)
  | .fxtos => some (answerFxtos s rs2)
  | .fxtod => some (answerFxtod s rs2)
  | .fmovs => some (answerFmovs s rs2)
  | .fnegs => some (answerFnegs s rs2)
  | .fabss => some (answerFabss s rs2)
  | .fsqrts => some (answerFsqrts s rs2)
  | .fsqrtd => some (answerFsqrtd s rs2)
  | .fsqrtx => some (answerFsqrtx s rs2)
  | .fadds => some (answerFadds s rs1 rs2)
  | .faddd => some (answerFaddd s rs1 rs2)
  | .faddx => some (answerFaddx s rs1 rs2)
  | .fsubs => some (answerFsubs s rs1 rs2)
  | .fsubd => some (answerFsubd s rs1 rs2)
  | .fsubx => some (answerFsubx s rs1 rs2)
  | .fmuls => some (answerFmuls s rs1 rs2)
  | .fmuld => some (answerFmuld s rs1 rs2)
  | .fmulx => some (answerFmulx s rs1 rs2)
  | .fdivs => some (answerFdivs s rs1 rs2)
  | .fdivd => some (answerFdivd s rs1 rs2)
  | .fdivx => some (answerFdivx s rs1 rs2)
  | .fcmps => some (answerFcmps s rs1 rs2)
  | .fcmpd => some (answerFcmpd s rs1 rs2)
  | .fcmpx => some (answerFcmpx s rs1 rs2)
  | .fcmpes => some (answerFcmpes s rs1 rs2)
  | .fcmped => some (answerFcmped s rs1 rs2)
  | .fcmpex => some (answerFcmpex s rs1 rs2)
  | .unassigned => none

/-! ### The registers an operation uses (44 R441, R433) -/

/-- How many f registers the first source, the second source and the destination of an operation take. DESIGN CHOICE where
the spec is silent: an FPop with an unassigned opf takes none, so that no load or store waits for it (log entry 14). -/
def fpShape (fn : FpFn) : Nat × Nat × Nat :=
  match fn with
  | .fitos | .fstoi | .fmovs | .fnegs | .fabss | .fsqrts => (0, 1, 1)
  | .fitod | .fstod => (0, 1, 2)
  | .fitox | .fstox => (0, 1, 4)
  | .fdtoi | .fdtos => (0, 2, 1)
  | .fdtox => (0, 2, 4)
  | .fxtoi | .fxtos => (0, 4, 1)
  | .fxtod => (0, 4, 2)
  | .fsqrtd => (0, 2, 2)
  | .fsqrtx => (0, 4, 4)
  | .fadds | .fsubs | .fmuls | .fdivs => (1, 1, 1)
  | .faddd | .fsubd | .fmuld | .fdivd => (2, 2, 2)
  | .faddx | .fsubx | .fmulx | .fdivx => (4, 4, 4)
  | .fcmps | .fcmpes => (1, 1, 0)
  | .fcmpd | .fcmped => (2, 2, 0)
  | .fcmpx | .fcmpex => (4, 4, 0)
  | .unassigned => (0, 0, 0)

/-- Register r is one of the registers of an operand of some words at x; extended-u is none (R441). -/
def operandCovers (words : Nat) (x r : Reg) : Bool :=
  match words with
  | 0 => false
  | 1 => r == x
  | 2 => r &&& 0b11110#5 == x &&& 0b11110#5
  | _ => (r &&& 0b11100#5 == x &&& 0b11100#5) && (r &&& 0b00011#5 != 0b00011#5)

/-- A queued operation writes, or reads, an f register. -/
def entryWrites (e : FqEntry) (r : Reg) : Bool := operandCovers (fpShape e.fn).2.2 e.rd r
def entryReads (e : FqEntry) (r : Reg) : Bool :=
  operandCovers (fpShape e.fn).1 e.rs1 r || operandCovers (fpShape e.fn).2.1 e.rs2 r

/-- A queued operation is a compare. -/
def entryCompares (e : FqEntry) : Bool :=
  match e.fn with
  | .fcmps | .fcmpd | .fcmpx | .fcmpes | .fcmped | .fcmpex => true
  | _ => false

/-! ### Completion of the front entry (44 R447) -/

/-- The bits of a mask from the new value, the others from the old one: bits an FPU does not implement with their meaning are
state bits (R63); bit 0 always has its meaning. -/
def implementedBits (mask new old : BitVec 5) : BitVec 5 := (new &&& (mask ||| 1)) ||| (old &&& ~~~(mask ||| 1))

/-- The FPU stops at the front entry: ftt names the type, the mode becomes exception_pending, the entry stays (R437 to R439,
R541). -/
def State.fpStop (s : State) (ftt : BitVec 3) (cexc : BitVec 5) : State :=
  (s.setFsr { s.fpu.fsr with ftt := ftt, cexc := cexc }).setFpuMode .exceptionPending

/-- The result written to its registers or to fcc (R447). -/
def State.writeResult (s : State) (rd : Reg) (r : FpResult) : State :=
  match r with
  | .single w => s.setFreg rd w
  | .double d => s.setDouble rd d
  | .extended x => s.setExtended rd x
  | .fcc c => s.setFsr { s.fpu.fsr with fcc := c }
  | .move w => s.setFreg rd w

/-- The result of an operation taken over into the FPU's state: the moves leave the FSR alone (R494) but for ftt, which R494
leaves unchanged and D12 clears, a free choice (log entry 21); any other sets cexc, and then either stops
(IEEE_exception, R437) or accrues the exceptions, writes the result and clears ftt (R447, D12). -/
def State.finishEntry (s : State) (rd : Reg) (rest : List FqEntry) (ans : FpAnswer) : State :=
  match ans.result with
  | .move w =>
    ((s.setFreg rd w).setFsr { s.fpu.fsr with ftt := if s.freeBool .moveFtt then 0 else s.fpu.fsr.ftt }).setQueue rest
  | r =>
    let fsr := s.fpu.fsr
    let cexc := implementedBits s.cfg.cexcBits ans.texc fsr.cexc
    if ans.texc &&& fsr.tem &&& (s.cfg.temBits ||| 1) = 0 then
      let aexc := fsr.aexc ||| (ans.texc &&& (s.cfg.aexcBits ||| 1))
      ((s.setFsr { fsr with cexc := cexc, aexc := aexc, ftt := 0 }).writeResult rd r).setQueue rest
    else s.fpStop 1 cexc

/-- The completion of the front entry: unimplemented_FPop (R439), unfinished_FPop (R438), or its result. Each completion draws
its own free values. -/
def State.completeFront (s : State) : State :=
  match s.fpu.queue with
  | [] => s
  | e :: rest =>
    let s1 := { s with tick := s.tick + 1 }
    match fpAnswer e.fn s e.rs1 e.rs2 with
    | none => s1.fpStop 3 (s.freeBits .cexcBits 5)
    | some ans =>
      if s.cfg.unimplemented.contains e.fn then s1.fpStop 3 (s.freeBits .cexcBits 5)
      else if s.cfg.unfinished.contains (e.fn, ans.a, ans.b) then s1.fpStop 2 (s.freeBits .cexcBits 5)
      else s1.finishEntry e.rd rest ans

/-- FPU steps, at most so many, while the FPU executes, its queue is not empty and a condition on the queue holds (R435). -/
def State.fpuStepsWhile (wait : List FqEntry → Bool) (n : Nat) (s : State) : State :=
  match n with
  | 0 => s
  | k + 1 =>
    if s.fpu.mode == .execute && !s.fpu.queue.isEmpty && wait s.fpu.queue then
      State.fpuStepsWhile wait k s.completeFront
    else s

/-- The IU waits while a condition on the queue holds (R433): the FPU's steps go on meanwhile. -/
def State.holdWhile (s : State) (wait : List FqEntry → Bool) : State := s.fpuStepsWhile wait s.fpu.queue.length

/-! ### Dispatch of floating-point instructions (44 R491, 60 R508, R542, R543) -/

/-- EF = 0, or no FPU is present (R48, R508). -/
def State.fpDisabled (s : State) : Bool := !s.seeBool .fpEnable .ef || !s.cfg.fpuPresent

/-- The deferred fp_exception: the FPU goes to exception mode, qne says whether the queue holds entries (R542). -/
def State.fpExceptionTrap (s : State) : State :=
  ((s.setFsr { s.fpu.fsr with qne := !s.fpu.queue.isEmpty }).setFpuMode .exception).takeTrap .fpException

/-- sequence_error: ftt and the mode (R440, R543). -/
def State.sequenceError (s : State) : State :=
  (s.setFsr { s.fpu.fsr with ftt := 4 }).setFpuMode .exceptionPending

/-- A floating-point load, store or branch: fp_disabled, the deferred fp_exception, or the instruction itself (R202, R508,
R542). -/
def State.fpGuard (s : State) (body : State → State) : State :=
  if s.fpDisabled then s.takeTrap .fpDisabled
  else if s.fpu.mode = .exceptionPending then s.fpExceptionTrap
  else body s

/-- The wait of R433 in front of what an instruction does. Where an FPop waited for stops the FPU, the condition stays true, and
what the instruction would read or overwrite is not what the FPop leaves (R434, R588): the deferred fp_exception is
taken here (R542, log entry 14). -/
def State.fpHold (s : State) (wait : List FqEntry → Bool) (body : State → State) : State :=
  let s1 := s.holdWhile wait
  if s1.fpu.mode = .exceptionPending then s1.fpExceptionTrap else body s1

/-- An FPop accepted by the FPU: into the queue, and, in the sequential refinement, completed at once (R435, R436). -/
def State.accept (s : State) (e : FqEntry) : State :=
  let s1 := s.setQueue (s.fpu.queue ++ [e])
  if s.cfg.fpuConcurrent then s1 else s1.holdWhile (fun _ => true)

/-- The dispatch of an FPop (R491): fp_disabled, the deferred fp_exception, sequence_error, or acceptance once the queue has
room (R433 condition 5); a queue that stays full because its front stopped the FPU is the deferred fp_exception. -/
def State.fpop (s : State) (fn : FpFn) (rd rs1 rs2 : Reg) (word : Word) : State :=
  if s.fpDisabled then s.takeTrap .fpDisabled
  else if s.fpu.mode = .exceptionPending then s.fpExceptionTrap
  else if s.fpu.mode = .exception then s.sequenceError.advance
  else
    let s1 := s.holdWhile (fun q => decide (queueDepth s.cfg ≤ q.length))
    if queueDepth s.cfg ≤ s1.fpu.queue.length then s1.fpExceptionTrap
    else (s1.accept ⟨s.pc, word, fn, rd, rs1, rs2⟩).advance

/-! ### Dispatch of coprocessor instructions (60 R509, R548, 44 R480) -/

/-- EC = 0, or no coprocessor is present (R48, R509). -/
def State.cpDisabled (s : State) : Bool := !s.seeBool .cpEnable .ec || !s.cfg.cpPresent

/-- A coprocessor exception is pending: the signal bp_CP_exception (R480), by the mode of R548. In exception mode the exception
has been taken. -/
def State.cpPending (s : State) : Bool :=
  match s.cp.mode with
  | .execute => Config.cpException s.cp
  | .exceptionPending => true
  | .exception => false

/-- A coprocessor instruction: cp_disabled, the pending cp_exception, or the instruction itself. -/
def State.cpGuard (s : State) (body : State → State) : State :=
  if s.cpDisabled then s.takeTrap .cpDisabled
  else if s.cpPending then (s.setCp { s.cp with mode := .exception }).takeTrap .cpException
  else body s

/-- A privileged instruction: privileged_instruction in user mode (R510, R550). -/
def State.privileged (s : State) (body : State → State) : State :=
  if s.seeBool .privilege .s then body s else s.takeTrap .privilegedInstruction

end Sys2Proof.Machine
end

