-- ==== Sys2Proof/Machine/LoadStore.lean ====
section
/-! DEFINITION. The integer loads and stores, their alternate-space forms, and the atomic instructions (spec 40 R200 to R218, R228 to R236, R250
to R253). Checks in the order of R202: privilege, alignment, memory exception. -/

namespace Sys2Proof.Machine

/-- A load into r[rd]: alignment, the access, the register (R205 to R209). -/
def State.loadReg (s : State) (rd : Reg) (isAligned : Bool) (r : State × Option Word) : State :=
  if isAligned then
    match r with
    | (s1, none) => s1.takeTrap .dataAccessException
    | (s1, some v) => (s1.setReg .rdWrite rd v).advance
  else s.takeTrap .memAddressNotAligned

/-- Loads of a byte and of a halfword, sign- or zero-extended, and of a word. -/
def State.loadSignedByte (s : State) (asi : Byte) (a : Word) (rd : Reg) : State :=
  s.loadReg rd true ((s.readByte asi a).map id (fun r => r.map (fun b => b.signExtend 32)))
def State.loadUnsignedByte (s : State) (asi : Byte) (a : Word) (rd : Reg) : State :=
  s.loadReg rd true ((s.readByte asi a).map id (fun r => r.map (fun b => b.setWidth 32)))
def State.loadSignedHalf (s : State) (asi : Byte) (a : Word) (rd : Reg) : State :=
  s.loadReg rd (aligned a 2) ((s.readHalf asi a).map id (fun r => r.map (fun h => h.signExtend 32)))
def State.loadUnsignedHalf (s : State) (asi : Byte) (a : Word) (rd : Reg) : State :=
  s.loadReg rd (aligned a 2) ((s.readHalf asi a).map id (fun r => r.map (fun h => h.setWidth 32)))
def State.loadWord (s : State) (asi : Byte) (a : Word) (rd : Reg) : State :=
  s.loadReg rd (aligned a 4) (s.readWord asi a)

/-- A load of a doubleword into a register pair; the even register is written before the second access (R212). -/
def State.loadDouble (s : State) (asi : Byte) (a : Word) (rd : Reg) : State :=
  if aligned a 8 then
    match s.readWord asi a with
    | (s1, none) => s1.takeTrap .dataAccessException
    | (s1, some w0) =>
      match (s1.setReg .rdWrite (evenOf rd) w0).readWord asi (a + 4) with
      | (s2, none) => s2.takeTrap .dataAccessException
      | (s2, some w1) => (s2.setReg .rdWriteOdd (oddOf rd) w1).advance
  else s.takeTrap .memAddressNotAligned

/-- A store: alignment, then the access (R229 to R231). -/
def State.store (s : State) (isAligned : Bool) (r : Option State) : State :=
  if isAligned then
    match r with
    | none => s.takeTrap .dataAccessException
    | some s1 => s1.advance
  else s.takeTrap .memAddressNotAligned

/-- Stores of the least significant byte, halfword, and of the word of r[rd]. -/
def State.storeByte (s : State) (asi : Byte) (a : Word) (rd : Reg) : State :=
  s.store true (s.writeByte asi a ((s.reg .rdRead rd).setWidth 8))
def State.storeHalf (s : State) (asi : Byte) (a : Word) (rd : Reg) : State :=
  s.store (aligned a 2) (s.writeHalf asi a ((s.reg .rdRead rd).setWidth 16))
def State.storeWord (s : State) (asi : Byte) (a : Word) (rd : Reg) : State :=
  s.store (aligned a 4) (s.writeWord asi a (s.reg .rdRead rd))

/-- A store of two words in address order; the first stays written where the second access traps (R232, R241, R246). -/
def State.storePair (s : State) (asi : Byte) (a v0 v1 : Word) : State :=
  if aligned a 8 then
    match s.writeWord asi a v0 with
    | none => s.takeTrap .dataAccessException
    | some s1 =>
      match s1.writeWord asi (a + 4) v1 with
      | none => s1.takeTrap .dataAccessException
      | some s2 => s2.advance
  else s.takeTrap .memAddressNotAligned

/-- A store of a register pair (R232). -/
def State.storeDouble (s : State) (asi : Byte) (a : Word) (rd : Reg) : State :=
  s.storePair asi a (s.reg .rdRead (evenOf rd)) (s.reg .rdReadOdd (oddOf rd))

/-- LDSTUB: the byte into r[rd], then all ones into the byte, with nothing between (R250). -/
def State.loadStoreByte (s : State) (asi : Byte) (a : Word) (rd : Reg) : State :=
  match s.readByte asi a with
  | (s1, none) => s1.takeTrap .dataAccessException
  | (s1, some b) =>
    let s2 := s1.setReg .rdWrite rd (b.setWidth 32)
    match s2.writeByte asi a 0xFF#8 with
    | none => s2.takeTrap .dataAccessException
    | some s3 => s3.advance

/-- SWAP: the word into r[rd], and r[rd] as it was into the word, with nothing between (R252). -/
def State.swapWord (s : State) (asi : Byte) (a : Word) (rd : Reg) : State :=
  if aligned a 4 then
    let temp := s.reg .rdRead rd
    match s.readWord asi a with
    | (s1, none) => s1.takeTrap .dataAccessException
    | (s1, some w) =>
      let s2 := s1.setReg .rdWrite rd w
      match s2.writeWord asi a temp with
      | none => s2.takeTrap .dataAccessException
      | some s3 => s3.advance
  else s.takeTrap .memAddressNotAligned

/-- LDSB (R205). -/
def execLdsb (rd rs1 : Reg) (src : Operand2) (s : State) : Out := .next (s.loadSignedByte s.dataAsi (s.ea rs1 src) rd)

/-- LDSH (R206). -/
def execLdsh (rd rs1 : Reg) (src : Operand2) (s : State) : Out := .next (s.loadSignedHalf s.dataAsi (s.ea rs1 src) rd)

/-- LDUB (R207). -/
def execLdub (rd rs1 : Reg) (src : Operand2) (s : State) : Out := .next (s.loadUnsignedByte s.dataAsi (s.ea rs1 src) rd)

/-- LDUH (R208). -/
def execLduh (rd rs1 : Reg) (src : Operand2) (s : State) : Out := .next (s.loadUnsignedHalf s.dataAsi (s.ea rs1 src) rd)

/-- LD (R209). -/
def execLd (rd rs1 : Reg) (src : Operand2) (s : State) : Out := .next (s.loadWord s.dataAsi (s.ea rs1 src) rd)

/-- LDD (R210). -/
def execLdd (rd rs1 : Reg) (src : Operand2) (s : State) : Out := .next (s.loadDouble s.dataAsi (s.ea rs1 src) rd)

/-- LDSBA (R213). -/
def execLdsba (rd rs1 rs2 : Reg) (asi : BitVec 8) (s : State) : Out := .next (s.privileged fun s => s.loadSignedByte asi (s.eaAlternate rs1 rs2) rd)

/-- LDSHA (R214). -/
def execLdsha (rd rs1 rs2 : Reg) (asi : BitVec 8) (s : State) : Out := .next (s.privileged fun s => s.loadSignedHalf asi (s.eaAlternate rs1 rs2) rd)

/-- LDUBA (R215). -/
def execLduba (rd rs1 rs2 : Reg) (asi : BitVec 8) (s : State) : Out := .next (s.privileged fun s => s.loadUnsignedByte asi (s.eaAlternate rs1 rs2) rd)

/-- LDUHA (R216). -/
def execLduha (rd rs1 rs2 : Reg) (asi : BitVec 8) (s : State) : Out := .next (s.privileged fun s => s.loadUnsignedHalf asi (s.eaAlternate rs1 rs2) rd)

/-- LDA (R217). -/
def execLda (rd rs1 rs2 : Reg) (asi : BitVec 8) (s : State) : Out := .next (s.privileged fun s => s.loadWord asi (s.eaAlternate rs1 rs2) rd)

/-- LDDA (R218). -/
def execLdda (rd rs1 rs2 : Reg) (asi : BitVec 8) (s : State) : Out := .next (s.privileged fun s => s.loadDouble asi (s.eaAlternate rs1 rs2) rd)

/-- STB (R229). -/
def execStb (rd rs1 : Reg) (src : Operand2) (s : State) : Out := .next (s.storeByte s.dataAsi (s.ea rs1 src) rd)

/-- STH (R230). -/
def execSth (rd rs1 : Reg) (src : Operand2) (s : State) : Out := .next (s.storeHalf s.dataAsi (s.ea rs1 src) rd)

/-- ST (R231). -/
def execSt (rd rs1 : Reg) (src : Operand2) (s : State) : Out := .next (s.storeWord s.dataAsi (s.ea rs1 src) rd)

/-- STD (R232). -/
def execStd (rd rs1 : Reg) (src : Operand2) (s : State) : Out := .next (s.storeDouble s.dataAsi (s.ea rs1 src) rd)

/-- STBA (R233). -/
def execStba (rd rs1 rs2 : Reg) (asi : BitVec 8) (s : State) : Out := .next (s.privileged fun s => s.storeByte asi (s.eaAlternate rs1 rs2) rd)

/-- STHA (R234). -/
def execStha (rd rs1 rs2 : Reg) (asi : BitVec 8) (s : State) : Out := .next (s.privileged fun s => s.storeHalf asi (s.eaAlternate rs1 rs2) rd)

/-- STA (R235). -/
def execSta (rd rs1 rs2 : Reg) (asi : BitVec 8) (s : State) : Out := .next (s.privileged fun s => s.storeWord asi (s.eaAlternate rs1 rs2) rd)

/-- STDA (R236). -/
def execStda (rd rs1 rs2 : Reg) (asi : BitVec 8) (s : State) : Out := .next (s.privileged fun s => s.storeDouble asi (s.eaAlternate rs1 rs2) rd)

/-- LDSTUB (R250). -/
def execLdstub (rd rs1 : Reg) (src : Operand2) (s : State) : Out := .next (s.loadStoreByte s.dataAsi (s.ea rs1 src) rd)

/-- LDSTUBA (R251). -/
def execLdstuba (rd rs1 rs2 : Reg) (asi : BitVec 8) (s : State) : Out := .next (s.privileged fun s => s.loadStoreByte asi (s.eaAlternate rs1 rs2) rd)

/-- SWAP (R252). -/
def execSwap (rd rs1 : Reg) (src : Operand2) (s : State) : Out := .next (s.swapWord s.dataAsi (s.ea rs1 src) rd)

/-- SWAPA (R253). -/
def execSwapa (rd rs1 rs2 : Reg) (asi : BitVec 8) (s : State) : Out := .next (s.privileged fun s => s.swapWord asi (s.eaAlternate rs1 rs2) rd)

end Sys2Proof.Machine
end

