-- ==== Sys2Proof/Machine/FpLoadStore.lean ====
section
/-! DEFINITION. The floating-point loads and stores (spec 40 R220 to R223, R239 to R243). -/

namespace Sys2Proof.Machine

/-- Waits while a queued FPop reads or writes an f register (R433 condition 1). -/
def waitUse (regs : List Reg) (q : List FqEntry) : Bool :=
  q.any (fun e => regs.any (fun r => entryReads e r || entryWrites e r))

/-- Waits while a queued FPop writes an f register (R433 condition 2). -/
def waitWrite (regs : List Reg) (q : List FqEntry) : Bool := q.any (fun e => regs.any (fun r => entryWrites e r))

/-- Waits for every queued FPop (R433 condition 3). -/
def waitAll (_ : List FqEntry) : Bool := true

/-- An f register after a load that took a data_access_exception: as it was, or the implementation's constant (U6). -/
def State.keepOrConstant (s : State) (n : Nat) (r : Reg) : State :=
  if s.freeBool (.loadKept n) then s.setFreg r Config.loadTrapConstant else s

/-- A load's write of an f register: in exception mode, where the load is a sequence error, it may be left out (U7). -/
def State.loadFreg (s : State) (n : Nat) (r : Reg) (v : Word) : State :=
  if s.fpu.mode = .exception ∧ s.freeBool (.loadOld n) = true then s else s.setFreg r v

/-- The end of a floating-point load that did not trap: in exception mode it is a sequence error (R220, R543). One that itself traps
changes neither ftt nor the mode (DEDUCED from R202, log entry 23). -/
def State.loadDone (s : State) (mode : FpuMode) : State :=
  (if mode = .exception then s.sequenceError else s).advance

/-- A load of one f register (R221). -/
def State.loadSingleFp (s : State) (asi : Byte) (a : Word) (rd : Reg) : State :=
  if aligned a 4 then
    match s.readWord asi a with
    | (s1, none) => (s1.keepOrConstant 0 rd).takeTrap .dataAccessException
    | (s1, some w) => (s1.loadFreg 0 rd w).loadDone s.fpu.mode
  else s.takeTrap .memAddressNotAligned

/-- A load of a pair of f registers (R222); where the second access traps, the even register may hold the word loaded
(U6, log entry 22). -/
def State.loadDoubleFp (s : State) (asi : Byte) (a : Word) (rd : Reg) : State :=
  if aligned a 8 then
    match s.readWord asi a with
    | (s1, none) => ((s1.keepOrConstant 0 (pairHigh rd)).keepOrConstant 1 (pairLow rd)).takeTrap .dataAccessException
    | (s1, some w0) =>
      match s1.readWord asi (a + 4) with
      | (s2, none) =>
        let s3 := if s2.freeBool (.loadKept 2) then s2.setFreg (pairHigh rd) w0 else s2.keepOrConstant 0 (pairHigh rd)
        (s3.keepOrConstant 1 (pairLow rd)).takeTrap .dataAccessException
      | (s2, some w1) => ((s2.loadFreg 0 (pairHigh rd) w0).loadFreg 1 (pairLow rd) w1).loadDone s.fpu.mode
  else s.takeTrap .memAddressNotAligned

/-- The FSR loaded, once the wait is over: it may be left out as a sequence error (U7), and where an FPop waited for has
stopped the FPU (U8). -/
def State.putLoadedFsr (s : State) (w : Word) : State :=
  (if s.fpu.mode ≠ .execute ∧ s.freeBool .fsrLoaded = true then s else s.setFsr (fsrLoad s.fpu.fsr w)).loadDone s.fpu.mode

/-- The load of the FSR (R223): alignment and the access, then the wait for every FPop, then the FSR. Where an FPop waited for
stops the FPU, the trap is taken here, without loading, or at the next floating-point instruction (U8, log entry 14). -/
def State.loadFsr (s : State) (asi : Byte) (a : Word) : State :=
  if aligned a 4 then
    match s.readWord asi a with
    | (s1, none) => s1.takeTrap .dataAccessException
    | (s1, some w) =>
      let s2 := s1.holdWhile waitAll
      if s2.fpu.mode = .exceptionPending ∧ s2.freeBool .held = true then s2.fpExceptionTrap else s2.putLoadedFsr w
  else s.takeTrap .memAddressNotAligned

/-- The store of the FSR (R242): alignment, the wait for every FPop, then the access. -/
def State.storeFsr (s : State) (asi : Byte) (a : Word) : State :=
  if aligned a 4 then s.fpHold waitAll fun s => s.store true (s.writeWord asi a (fsrWord s.fpu.fsr))
  else s.takeTrap .memAddressNotAligned

/-- The front entry removed in exception mode; with the last one the FPU returns to execute mode (R243, R544, R545).
DESIGN CHOICE outside exception mode (U9): nothing is removed and qne stays as it was, even where it then disagrees with
the queue (log entry 24). -/
def State.dequeue (s : State) (rest : List FqEntry) : State :=
  if s.fpu.mode = .exception then
    let s1 := (s.setQueue rest).setFsr { s.fpu.fsr with qne := !rest.isEmpty }
    if rest.isEmpty then s1.setFpuMode .execute else s1
  else s

/-- The two words STDFQ stores: in exception mode the address and the instruction of the queue's front entry (R243); outside
exception mode, or with an empty queue, any two words (90 C6, U9, log entry 24). -/
def State.queueWords (s : State) : Word × Word :=
  match s.fpu.mode, s.fpu.queue with
  | .exception, e :: _ => (e.addr, e.instr)
  | _, _ => (s.freeBits (.queueWord 0) 32, s.freeBits (.queueWord 1) 32)

/-- The store of the queue's front entry: its address, then, the entry removed between the two accesses, its instruction
(R243). -/
def State.storeQueue (s : State) (asi : Byte) (a : Word) : State :=
  if aligned a 8 then
    match s.writeWord asi a s.queueWords.1 with
    | none => s.takeTrap .dataAccessException
    | some s1 =>
      let s2 := match s1.fpu.queue with
        | [] => s1
        | _ :: rest => s1.dequeue rest
      match s2.writeWord asi (a + 4) s.queueWords.2 with
      | none => s2.takeTrap .dataAccessException
      | some s3 => s3.advance
  else s.takeTrap .memAddressNotAligned

/-- LDF (R221). -/
def execLdf (rd rs1 : Reg) (src : Operand2) (s : State) : Out := .next (s.fpGuard fun s => s.fpHold (waitUse [rd]) fun s => s.loadSingleFp s.dataAsi (s.ea rs1 src) rd)

/-- LDDF (R222). -/
def execLddf (rd rs1 : Reg) (src : Operand2) (s : State) : Out := .next (s.fpGuard fun s =>
    s.fpHold (waitUse [pairHigh rd, pairLow rd]) fun s => s.loadDoubleFp s.dataAsi (s.ea rs1 src) rd)

/-- LDFSR (R223). -/
def execLdfsr (rs1 : Reg) (src : Operand2) (s : State) : Out := .next (s.fpGuard fun s => s.loadFsr s.dataAsi (s.ea rs1 src))

/-- STF (R240). -/
def execStf (rd rs1 : Reg) (src : Operand2) (s : State) : Out := .next (s.fpGuard fun s => s.fpHold (waitWrite [rd]) fun s =>
    s.store (aligned (s.ea rs1 src) 4) (s.writeWord s.dataAsi (s.ea rs1 src) (s.freg rd)))

/-- STDF (R241). -/
def execStdf (rd rs1 : Reg) (src : Operand2) (s : State) : Out := .next (s.fpGuard fun s =>
    s.fpHold (waitWrite [pairHigh rd, pairLow rd]) fun s =>
    s.storePair s.dataAsi (s.ea rs1 src) (s.freg (pairHigh rd)) (s.freg (pairLow rd)))

/-- STFSR (R242). -/
def execStfsr (rs1 : Reg) (src : Operand2) (s : State) : Out := .next (s.fpGuard fun s => s.storeFsr s.dataAsi (s.ea rs1 src))

/-- STDFQ (R243). -/
def execStdfq (rs1 : Reg) (src : Operand2) (s : State) : Out := .next (s.privileged fun s => s.fpGuard fun s => s.storeQueue s.dataAsi (s.ea rs1 src))

end Sys2Proof.Machine
end

