-- ==== Sys2Proof/Machine/Branch.lean ====
section
/-! DEFINITION. Bicc, FBfcc and CBccc (spec 42 R320 to R357, R393 to R409, 30 R155 to R157). -/

namespace Sys2Proof.Machine

/-- A conditional branch, decided: taken, the annul bit is ignored; not taken, it annuls the next instruction (R321). -/
def State.branch (s : State) (taken annul : Bool) (disp : BitVec 22) : State :=
  if taken then s.transfer (branchTarget s.pc disp) false else s.transfer (s.npc + 4) annul

/-- Branch always: taken, and the annul bit annuls the next instruction (R321). -/
def State.branchAlways (s : State) (annul : Bool) (disp : BitVec 22) : State :=
  s.transfer (branchTarget s.pc disp) annul

/-- Branch never: not taken (R321). -/
def State.branchNever (s : State) (annul : Bool) : State := s.transfer (s.npc + 4) annul

/-- Bicc on icc (R324). -/
def State.branchIcc (s : State) (test : Icc → Bool) (annul : Bool) (disp : BitVec 22) : State :=
  s.branch (test (s.seeIcc .condition)) annul disp

/-- Waits for queued compares (R433 condition 4). -/
def waitCompare (q : List FqEntry) : Bool := q.any entryCompares

/-- FBfcc on fcc (R341); directly after a floating-point instruction the decision is free (R582, U20). -/
def State.branchFcc (s : State) (values : List (BitVec 2)) (annul : Bool) (disp : BitVec 22) : State :=
  s.fpGuard fun s => s.fpHold waitCompare fun s =>
    s.branch (if s.prev.fp then s.freeBool .branchTaken else ccIn values s.fpu.fsr.fcc) annul disp

/-- CBccc on bp_CP_cc (R393); directly after a coprocessor instruction the decision is free (R583, U21). -/
def State.branchCcc (s : State) (values : List (BitVec 2)) (annul : Bool) (disp : BitVec 22) : State :=
  s.cpGuard fun s => s.branch (if s.prev.cp then s.freeBool .branchTaken else ccIn values (Config.cpCc s.cp)) annul disp

/-- BN (R326). -/
def execBn (annul : Bool) (_disp : BitVec 22) (s : State) : Out := .next (s.branchNever annul)

/-- BE (R328). -/
def execBe (annul : Bool) (disp : BitVec 22) (s : State) : Out := .next (s.branchIcc iccEqual annul disp)

/-- BLE (R330). -/
def execBle (annul : Bool) (disp : BitVec 22) (s : State) : Out := .next (s.branchIcc iccLessEqual annul disp)

/-- BL (R332). -/
def execBl (annul : Bool) (disp : BitVec 22) (s : State) : Out := .next (s.branchIcc iccLess annul disp)

/-- BLEU (R334). -/
def execBleu (annul : Bool) (disp : BitVec 22) (s : State) : Out := .next (s.branchIcc iccLessEqualUnsigned annul disp)

/-- BCS (R336). -/
def execBcs (annul : Bool) (disp : BitVec 22) (s : State) : Out := .next (s.branchIcc iccCarrySet annul disp)

/-- BNEG (R338). -/
def execBneg (annul : Bool) (disp : BitVec 22) (s : State) : Out := .next (s.branchIcc iccNegative annul disp)

/-- BVS (R340). -/
def execBvs (annul : Bool) (disp : BitVec 22) (s : State) : Out := .next (s.branchIcc iccOverflowSet annul disp)

/-- BA (R325). -/
def execBa (annul : Bool) (disp : BitVec 22) (s : State) : Out := .next (s.branchAlways annul disp)

/-- BNE (R327). -/
def execBne (annul : Bool) (disp : BitVec 22) (s : State) : Out := .next (s.branchIcc iccNotEqual annul disp)

/-- BG (R329). -/
def execBg (annul : Bool) (disp : BitVec 22) (s : State) : Out := .next (s.branchIcc iccGreater annul disp)

/-- BGE (R331). -/
def execBge (annul : Bool) (disp : BitVec 22) (s : State) : Out := .next (s.branchIcc iccGreaterEqual annul disp)

/-- BGU (R333). -/
def execBgu (annul : Bool) (disp : BitVec 22) (s : State) : Out := .next (s.branchIcc iccGreaterUnsigned annul disp)

/-- BCC (R335). -/
def execBcc (annul : Bool) (disp : BitVec 22) (s : State) : Out := .next (s.branchIcc iccCarryClear annul disp)

/-- BPOS (R337). -/
def execBpos (annul : Bool) (disp : BitVec 22) (s : State) : Out := .next (s.branchIcc iccPositive annul disp)

/-- BVC (R339). -/
def execBvc (annul : Bool) (disp : BitVec 22) (s : State) : Out := .next (s.branchIcc iccOverflowClear annul disp)

/-- FBN (R343). -/
def execFbn (annul : Bool) (_disp : BitVec 22) (s : State) : Out := .next (s.fpGuard fun s => s.fpHold waitCompare fun s => s.branchNever annul)

/-- FBNE (R350). -/
def execFbne (annul : Bool) (disp : BitVec 22) (s : State) : Out := .next (s.branchFcc [1, 2, 3] annul disp)

/-- FBLG (R349). -/
def execFblg (annul : Bool) (disp : BitVec 22) (s : State) : Out := .next (s.branchFcc [1, 2] annul disp)

/-- FBUL (R348). -/
def execFbul (annul : Bool) (disp : BitVec 22) (s : State) : Out := .next (s.branchFcc [1, 3] annul disp)

/-- FBL (R347). -/
def execFbl (annul : Bool) (disp : BitVec 22) (s : State) : Out := .next (s.branchFcc [1] annul disp)

/-- FBUG (R346). -/
def execFbug (annul : Bool) (disp : BitVec 22) (s : State) : Out := .next (s.branchFcc [2, 3] annul disp)

/-- FBG (R345). -/
def execFbg (annul : Bool) (disp : BitVec 22) (s : State) : Out := .next (s.branchFcc [2] annul disp)

/-- FBU (R344). -/
def execFbu (annul : Bool) (disp : BitVec 22) (s : State) : Out := .next (s.branchFcc [3] annul disp)

/-- FBA (R342). -/
def execFba (annul : Bool) (disp : BitVec 22) (s : State) : Out := .next (s.fpGuard fun s => s.fpHold waitCompare fun s => s.branchAlways annul disp)

/-- FBE (R351). -/
def execFbe (annul : Bool) (disp : BitVec 22) (s : State) : Out := .next (s.branchFcc [0] annul disp)

/-- FBUE (R352). -/
def execFbue (annul : Bool) (disp : BitVec 22) (s : State) : Out := .next (s.branchFcc [0, 3] annul disp)

/-- FBGE (R353). -/
def execFbge (annul : Bool) (disp : BitVec 22) (s : State) : Out := .next (s.branchFcc [0, 2] annul disp)

/-- FBUGE (R354). -/
def execFbuge (annul : Bool) (disp : BitVec 22) (s : State) : Out := .next (s.branchFcc [0, 2, 3] annul disp)

/-- FBLE (R355). -/
def execFble (annul : Bool) (disp : BitVec 22) (s : State) : Out := .next (s.branchFcc [0, 1] annul disp)

/-- FBULE (R356). -/
def execFbule (annul : Bool) (disp : BitVec 22) (s : State) : Out := .next (s.branchFcc [0, 1, 3] annul disp)

/-- FBO (R357). -/
def execFbo (annul : Bool) (disp : BitVec 22) (s : State) : Out := .next (s.branchFcc [0, 1, 2] annul disp)

/-- CBN (R395). -/
def execCbn (annul : Bool) (_disp : BitVec 22) (s : State) : Out := .next (s.cpGuard fun s => s.branchNever annul)

/-- CB123 (R402). -/
def execCb123 (annul : Bool) (disp : BitVec 22) (s : State) : Out := .next (s.branchCcc [1, 2, 3] annul disp)

/-- CB12 (R401). -/
def execCb12 (annul : Bool) (disp : BitVec 22) (s : State) : Out := .next (s.branchCcc [1, 2] annul disp)

/-- CB13 (R400). -/
def execCb13 (annul : Bool) (disp : BitVec 22) (s : State) : Out := .next (s.branchCcc [1, 3] annul disp)

/-- CB1 (R399). -/
def execCb1 (annul : Bool) (disp : BitVec 22) (s : State) : Out := .next (s.branchCcc [1] annul disp)

/-- CB23 (R398). -/
def execCb23 (annul : Bool) (disp : BitVec 22) (s : State) : Out := .next (s.branchCcc [2, 3] annul disp)

/-- CB2 (R397). -/
def execCb2 (annul : Bool) (disp : BitVec 22) (s : State) : Out := .next (s.branchCcc [2] annul disp)

/-- CB3 (R396). -/
def execCb3 (annul : Bool) (disp : BitVec 22) (s : State) : Out := .next (s.branchCcc [3] annul disp)

/-- CBA (R394). -/
def execCba (annul : Bool) (disp : BitVec 22) (s : State) : Out := .next (s.cpGuard fun s => s.branchAlways annul disp)

/-- CB0 (R403). -/
def execCb0 (annul : Bool) (disp : BitVec 22) (s : State) : Out := .next (s.branchCcc [0] annul disp)

/-- CB03 (R404). -/
def execCb03 (annul : Bool) (disp : BitVec 22) (s : State) : Out := .next (s.branchCcc [0, 3] annul disp)

/-- CB02 (R405). -/
def execCb02 (annul : Bool) (disp : BitVec 22) (s : State) : Out := .next (s.branchCcc [0, 2] annul disp)

/-- CB023 (R406). -/
def execCb023 (annul : Bool) (disp : BitVec 22) (s : State) : Out := .next (s.branchCcc [0, 2, 3] annul disp)

/-- CB01 (R407). -/
def execCb01 (annul : Bool) (disp : BitVec 22) (s : State) : Out := .next (s.branchCcc [0, 1] annul disp)

/-- CB013 (R408). -/
def execCb013 (annul : Bool) (disp : BitVec 22) (s : State) : Out := .next (s.branchCcc [0, 1, 3] annul disp)

/-- CB012 (R409). -/
def execCb012 (annul : Bool) (disp : BitVec 22) (s : State) : Out := .next (s.branchCcc [0, 1, 2] annul disp)

end Sys2Proof.Machine
end

