-- ==== Sys2Proof/Machine/Control.lean ====
section
/-! DEFINITION. SAVE, RESTORE, CALL, JMPL, RETT and Ticc (spec 41 R303 to R305, 42 R370 to R392). -/

namespace Sys2Proof.Machine

/-- SAVE and RESTORE to a window: the window trap, or the sum of the old window's operands in the new window's r[rd] (R303). -/
def State.changeWindow (s : State) (w : BitVec 5) (t : Trap) (rd : Reg) (result : Word) : State :=
  if (s.see .windowMask .wim).getLsbD w.toNat then s.takeTrap t
  else ((s.putCwp w).setRegIn w rd result).advance

/-- A RETT that fails with traps disabled: tt names the condition, and the processor enters error_mode (R374, R530), unless reset is
requested at the check that follows (R570). -/
def State.failReturn (s : State) (t : Trap) : State :=
  if s.resetAhead then s else (s.setTt (trapType t)).enterErrorMode

/-- Ticc: the software trap, or nothing (R376). -/
def State.trapOn (s : State) (test : Icc → Bool) (rs1 : Reg) (src : Operand2) : State :=
  if test (s.seeIcc .condition) then s.takeTrap (.trapInstruction ((s.ea rs1 src).extractLsb' 0 7)) else s.advance

/-- SAVE (R304). -/
def execSave (rd rs1 : Reg) (src : Operand2) (s : State) : Out := .next (s.changeWindow (windowBelow s.cfg (s.seeCwp .window)) .windowOverflow rd (s.ea rs1 src))

/-- RESTORE (R305). -/
def execRestore (rd rs1 : Reg) (src : Operand2) (s : State) : Out := .next (s.changeWindow (windowAbove s.cfg (s.seeCwp .window)) .windowUnderflow rd (s.ea rs1 src))

/-- CALL (R370). -/
def execCall (disp : BitVec 30) (s : State) : Out := .next ((s.setReg .link 15 s.pc).transfer (callTarget s.pc disp) false)

/-- JMPL (R372). -/
def execJmpl (rd rs1 : Reg) (src : Operand2) (s : State) : Out := .next (
    let address := s.ea rs1 src
    if aligned address 4 then (s.setReg .rdWrite rd s.pc).transfer address false
    else s.takeTrap .memAddressNotAligned)

/-- RETT (R374). ET is tested first; what follows in supervisor mode, with the window valid and the target aligned, restores ET,
CWP and S; not directly after a JMPL, the space of the next fetch is open (R585). -/
def execRett (rs1 : Reg) (src : Operand2) (s : State) : Out := .next (
    let w := windowAbove s.cfg (s.seeCwp .window)
    let address := s.ea rs1 src
    if s.seeBool .returnEnable .et then s.takeTrap .illegalInstruction
    else if !s.seeBool .privilege .s then s.failReturn .privilegedInstruction
    else if (s.see .windowMask .wim).getLsbD w.toNat then s.failReturn .windowUnderflow
    else if !aligned address 4 then s.failReturn .memAddressNotAligned
    else
      ((((s.putEt true).putCwp w).putS (s.seeBool .returnMode .ps)).setFetchOpen (!s.prev.jmpl)).transfer address false)

/-- TN (R378). -/
def execTn (rs1 : Reg) (src : Operand2) (s : State) : Out := .next (s.trapOn iccNever rs1 src)

/-- TE (R380). -/
def execTe (rs1 : Reg) (src : Operand2) (s : State) : Out := .next (s.trapOn iccEqual rs1 src)

/-- TLE (R382). -/
def execTle (rs1 : Reg) (src : Operand2) (s : State) : Out := .next (s.trapOn iccLessEqual rs1 src)

/-- TL (R384). -/
def execTl (rs1 : Reg) (src : Operand2) (s : State) : Out := .next (s.trapOn iccLess rs1 src)

/-- TLEU (R386). -/
def execTleu (rs1 : Reg) (src : Operand2) (s : State) : Out := .next (s.trapOn iccLessEqualUnsigned rs1 src)

/-- TCS (R388). -/
def execTcs (rs1 : Reg) (src : Operand2) (s : State) : Out := .next (s.trapOn iccCarrySet rs1 src)

/-- TNEG (R390). -/
def execTneg (rs1 : Reg) (src : Operand2) (s : State) : Out := .next (s.trapOn iccNegative rs1 src)

/-- TVS (R392). -/
def execTvs (rs1 : Reg) (src : Operand2) (s : State) : Out := .next (s.trapOn iccOverflowSet rs1 src)

/-- TA (R377). -/
def execTa (rs1 : Reg) (src : Operand2) (s : State) : Out := .next (s.trapOn iccAlways rs1 src)

/-- TNE (R379). -/
def execTne (rs1 : Reg) (src : Operand2) (s : State) : Out := .next (s.trapOn iccNotEqual rs1 src)

/-- TG (R381). -/
def execTg (rs1 : Reg) (src : Operand2) (s : State) : Out := .next (s.trapOn iccGreater rs1 src)

/-- TGE (R383). -/
def execTge (rs1 : Reg) (src : Operand2) (s : State) : Out := .next (s.trapOn iccGreaterEqual rs1 src)

/-- TGU (R385). -/
def execTgu (rs1 : Reg) (src : Operand2) (s : State) : Out := .next (s.trapOn iccGreaterUnsigned rs1 src)

/-- TCC (R387). -/
def execTcc (rs1 : Reg) (src : Operand2) (s : State) : Out := .next (s.trapOn iccCarryClear rs1 src)

/-- TPOS (R389). -/
def execTpos (rs1 : Reg) (src : Operand2) (s : State) : Out := .next (s.trapOn iccPositive rs1 src)

/-- TVC (R391). -/
def execTvc (rs1 : Reg) (src : Operand2) (s : State) : Out := .next (s.trapOn iccOverflowClear rs1 src)

end Sys2Proof.Machine
end

