-- ==== Sys2Proof/Machine/Coprocessor.lean ====
section
/-! DEFINITION. The coprocessor instructions but the branches: loads, stores and CPops (spec 40 R225 to R227, R245 to R248, 44 R480, R488,
R489). -/

namespace Sys2Proof.Machine

/-- A load that trapped leaves the coprocessor in a state of its own (R225). -/
def State.cpLoadTrap (s : State) : State := (s.setCp (Config.cpLoadTrapped s.cp)).takeTrap .dataAccessException

/-- A load has handed the coprocessor a register; the rest of the coprocessor takes note in its own way (R480: cp_load). -/
def State.cpLoaded (s : State) : State := s.setCp { s.cp with hidden := Config.cpLoaded s.cp }

/-- A load of one word into the coprocessor (R225, R227). At a misaligned address the coprocessor is as it was (DEDUCED from R202,
log entry 33). -/
def State.loadCp (s : State) (asi : Byte) (a : Word) (put : State → Word → State) : State :=
  if aligned a 4 then
    match s.readWord asi a with
    | (s1, none) => s1.cpLoadTrap
    | (s1, some w) => (put s1 w).cpLoaded.advance
  else s.takeTrap .memAddressNotAligned

/-- A load of a pair of coprocessor registers (R226); where the second access traps, the even register holds the word loaded
and the odd one is unchanged (93 part 1.2), the rest of the coprocessor in a state of its own (R225). -/
def State.loadDoubleCp (s : State) (asi : Byte) (a : Word) (rd : Reg) : State :=
  if aligned a 8 then
    match s.readWord asi a with
    | (s1, none) => s1.cpLoadTrap
    | (s1, some w0) =>
      match s1.readWord asi (a + 4) with
      | (s2, none) =>
        (((s2.setCp (Config.cpLoadTrapped s2.cp)).setCreg (evenOf rd) w0).setCreg (oddOf rd) (s.creg (oddOf rd))).takeTrap
          .dataAccessException
      | (s2, some w1) => ((s2.setCreg (evenOf rd) w0).setCreg (oddOf rd) w1).cpLoaded.advance
  else s.takeTrap .memAddressNotAligned

/-- A store has taken a register from the coprocessor; the rest of it takes note in its own way (R480: cp_store). -/
def State.cpStored (s : State) : State := s.setCp { s.cp with hidden := Config.cpStored s.cp }

/-- A store of one word of the coprocessor (R245, R247). -/
def State.storeCp (s : State) (asi : Byte) (a v : Word) : State :=
  s.store (aligned a 4) ((s.writeWord asi a v).map State.cpStored)

/-- A store of a pair of coprocessor registers (R246). -/
def State.storeDoubleCp (s : State) (asi : Byte) (a v0 v1 : Word) : State :=
  if aligned a 8 then
    match s.writeWord asi a v0 with
    | none => s.takeTrap .dataAccessException
    | some s1 =>
      match s1.writeWord asi (a + 4) v1 with
      | none => s1.takeTrap .dataAccessException
      | some s2 => s2.cpStored.advance
  else s.takeTrap .memAddressNotAligned

/-- The store of the coprocessor queue's front entry (R248), after which the coprocessor is in a state of its own, and out of
exception mode where its queue is empty (R545, R548). DESIGN CHOICE, log entry 33: where the second write takes
data_access_exception the queue has not given up its front entry and the coprocessor is as it was (the spec says what happens
then for STDFQ only, R243). -/
def State.storeCpQueue (s : State) (asi : Byte) (a : Word) : State :=
  if aligned a 8 then
    match s.writeWord asi a s.cp.cqAddr with
    | none => s.takeTrap .dataAccessException
    | some s1 =>
      match s1.writeWord asi (a + 4) s.cp.cqInstr with
      | none => s1.takeTrap .dataAccessException
      | some s2 => (s2.setCp (Config.cpStoredQueue s2.cp)).advance
  else s.takeTrap .memAddressNotAligned

/-- A CPop: the word and its address go to the coprocessor (R480, R488, R489). -/
def State.cpop (s : State) (word : Word) : State :=
  s.cpGuard fun s => (s.setCp (Config.cpExecute s.cp word s.pc)).advance

/-- LDC (R225). -/
def execLdc (rd rs1 : Reg) (src : Operand2) (s : State) : Out := .next (s.cpGuard fun s => s.loadCp s.dataAsi (s.ea rs1 src) (fun t w => t.setCreg rd w))

/-- LDDC (R226). -/
def execLddc (rd rs1 : Reg) (src : Operand2) (s : State) : Out := .next (s.cpGuard fun s => s.loadDoubleCp s.dataAsi (s.ea rs1 src) rd)

/-- LDCSR (R227). -/
def execLdcsr (rs1 : Reg) (src : Operand2) (s : State) : Out := .next (s.cpGuard fun s => s.loadCp s.dataAsi (s.ea rs1 src) State.setCsr)

/-- STC (R245). -/
def execStc (rd rs1 : Reg) (src : Operand2) (s : State) : Out := .next (s.cpGuard fun s =>
    s.storeCp s.dataAsi (s.ea rs1 src) (s.creg rd))

/-- STDC (R246). -/
def execStdc (rd rs1 : Reg) (src : Operand2) (s : State) : Out := .next (s.cpGuard fun s =>
    s.storeDoubleCp s.dataAsi (s.ea rs1 src) (s.creg (evenOf rd)) (s.creg (oddOf rd)))

/-- STCSR (R247). -/
def execStcsr (rs1 : Reg) (src : Operand2) (s : State) : Out := .next (s.cpGuard fun s =>
    s.storeCp s.dataAsi (s.ea rs1 src) s.cp.csr)

/-- STDCQ (R248). -/
def execStdcq (rs1 : Reg) (src : Operand2) (s : State) : Out := .next (s.privileged fun s => s.cpGuard fun s => s.storeCpQueue s.dataAsi (s.ea rs1 src))

/-- CPop1 (R488). -/
def execCpop1 (rd rs1 : Reg) (opc : BitVec 9) (rs2 : Reg) (s : State) : Out := .next (s.cpop (formOpf rd 0b110110#6 rs1 opc rs2))

/-- CPop2 (R489). -/
def execCpop2 (rd rs1 : Reg) (opc : BitVec 9) (rs2 : Reg) (s : State) : Out := .next (s.cpop (formOpf rd 0b110111#6 rs1 opc rs2))

end Sys2Proof.Machine
end

