-- ==== Sys2Proof/Machine/FpOps.lean ====
section
/-! DEFINITION. The FPops: their dispatch (spec 44 R491); what each computes is its own answer in Fpu (R450 to R486). -/

namespace Sys2Proof.Machine

/-- FiTOs (R450). -/
def execFitos (rd rs1 rs2 : Reg) (s : State) : Out := .next (s.fpop .fitos rd rs1 rs2 (formOpf rd 0b110100#6 rs1 0b011000100#9 rs2))

/-- FiTOd (R451). -/
def execFitod (rd rs1 rs2 : Reg) (s : State) : Out := .next (s.fpop .fitod rd rs1 rs2 (formOpf rd 0b110100#6 rs1 0b011001000#9 rs2))

/-- FiTOx (R452). -/
def execFitox (rd rs1 rs2 : Reg) (s : State) : Out := .next (s.fpop .fitox rd rs1 rs2 (formOpf rd 0b110100#6 rs1 0b011001100#9 rs2))

/-- FsTOi (R453). -/
def execFstoi (rd rs1 rs2 : Reg) (s : State) : Out := .next (s.fpop .fstoi rd rs1 rs2 (formOpf rd 0b110100#6 rs1 0b011010001#9 rs2))

/-- FdTOi (R454). -/
def execFdtoi (rd rs1 rs2 : Reg) (s : State) : Out := .next (s.fpop .fdtoi rd rs1 rs2 (formOpf rd 0b110100#6 rs1 0b011010010#9 rs2))

/-- FxTOi (R455). -/
def execFxtoi (rd rs1 rs2 : Reg) (s : State) : Out := .next (s.fpop .fxtoi rd rs1 rs2 (formOpf rd 0b110100#6 rs1 0b011010011#9 rs2))

/-- FsTOd (R456). -/
def execFstod (rd rs1 rs2 : Reg) (s : State) : Out := .next (s.fpop .fstod rd rs1 rs2 (formOpf rd 0b110100#6 rs1 0b011001001#9 rs2))

/-- FsTOx (R457). -/
def execFstox (rd rs1 rs2 : Reg) (s : State) : Out := .next (s.fpop .fstox rd rs1 rs2 (formOpf rd 0b110100#6 rs1 0b011001101#9 rs2))

/-- FdTOs (R458). -/
def execFdtos (rd rs1 rs2 : Reg) (s : State) : Out := .next (s.fpop .fdtos rd rs1 rs2 (formOpf rd 0b110100#6 rs1 0b011000110#9 rs2))

/-- FdTOx (R459). -/
def execFdtox (rd rs1 rs2 : Reg) (s : State) : Out := .next (s.fpop .fdtox rd rs1 rs2 (formOpf rd 0b110100#6 rs1 0b011001110#9 rs2))

/-- FxTOs (R460). -/
def execFxtos (rd rs1 rs2 : Reg) (s : State) : Out := .next (s.fpop .fxtos rd rs1 rs2 (formOpf rd 0b110100#6 rs1 0b011000111#9 rs2))

/-- FxTOd (R461). -/
def execFxtod (rd rs1 rs2 : Reg) (s : State) : Out := .next (s.fpop .fxtod rd rs1 rs2 (formOpf rd 0b110100#6 rs1 0b011001011#9 rs2))

/-- FMOVs (R462). -/
def execFmovs (rd rs1 rs2 : Reg) (s : State) : Out := .next (s.fpop .fmovs rd rs1 rs2 (formOpf rd 0b110100#6 rs1 0b000000001#9 rs2))

/-- FNEGs (R463). -/
def execFnegs (rd rs1 rs2 : Reg) (s : State) : Out := .next (s.fpop .fnegs rd rs1 rs2 (formOpf rd 0b110100#6 rs1 0b000000101#9 rs2))

/-- FABSs (R464). -/
def execFabss (rd rs1 rs2 : Reg) (s : State) : Out := .next (s.fpop .fabss rd rs1 rs2 (formOpf rd 0b110100#6 rs1 0b000001001#9 rs2))

/-- FSQRTs (R465). -/
def execFsqrts (rd rs1 rs2 : Reg) (s : State) : Out := .next (s.fpop .fsqrts rd rs1 rs2 (formOpf rd 0b110100#6 rs1 0b000101001#9 rs2))

/-- FSQRTd (R466). -/
def execFsqrtd (rd rs1 rs2 : Reg) (s : State) : Out := .next (s.fpop .fsqrtd rd rs1 rs2 (formOpf rd 0b110100#6 rs1 0b000101010#9 rs2))

/-- FSQRTx (R467). -/
def execFsqrtx (rd rs1 rs2 : Reg) (s : State) : Out := .next (s.fpop .fsqrtx rd rs1 rs2 (formOpf rd 0b110100#6 rs1 0b000101011#9 rs2))

/-- FADDs (R468). -/
def execFadds (rd rs1 rs2 : Reg) (s : State) : Out := .next (s.fpop .fadds rd rs1 rs2 (formOpf rd 0b110100#6 rs1 0b001000001#9 rs2))

/-- FADDd (R469). -/
def execFaddd (rd rs1 rs2 : Reg) (s : State) : Out := .next (s.fpop .faddd rd rs1 rs2 (formOpf rd 0b110100#6 rs1 0b001000010#9 rs2))

/-- FADDx (R470). -/
def execFaddx (rd rs1 rs2 : Reg) (s : State) : Out := .next (s.fpop .faddx rd rs1 rs2 (formOpf rd 0b110100#6 rs1 0b001000011#9 rs2))

/-- FSUBs (R471). -/
def execFsubs (rd rs1 rs2 : Reg) (s : State) : Out := .next (s.fpop .fsubs rd rs1 rs2 (formOpf rd 0b110100#6 rs1 0b001000101#9 rs2))

/-- FSUBd (R472). -/
def execFsubd (rd rs1 rs2 : Reg) (s : State) : Out := .next (s.fpop .fsubd rd rs1 rs2 (formOpf rd 0b110100#6 rs1 0b001000110#9 rs2))

/-- FSUBx (R473). -/
def execFsubx (rd rs1 rs2 : Reg) (s : State) : Out := .next (s.fpop .fsubx rd rs1 rs2 (formOpf rd 0b110100#6 rs1 0b001000111#9 rs2))

/-- FMULs (R474). -/
def execFmuls (rd rs1 rs2 : Reg) (s : State) : Out := .next (s.fpop .fmuls rd rs1 rs2 (formOpf rd 0b110100#6 rs1 0b001001001#9 rs2))

/-- FMULd (R475). -/
def execFmuld (rd rs1 rs2 : Reg) (s : State) : Out := .next (s.fpop .fmuld rd rs1 rs2 (formOpf rd 0b110100#6 rs1 0b001001010#9 rs2))

/-- FMULx (R476). -/
def execFmulx (rd rs1 rs2 : Reg) (s : State) : Out := .next (s.fpop .fmulx rd rs1 rs2 (formOpf rd 0b110100#6 rs1 0b001001011#9 rs2))

/-- FDIVs (R477). -/
def execFdivs (rd rs1 rs2 : Reg) (s : State) : Out := .next (s.fpop .fdivs rd rs1 rs2 (formOpf rd 0b110100#6 rs1 0b001001101#9 rs2))

/-- FDIVd (R478). -/
def execFdivd (rd rs1 rs2 : Reg) (s : State) : Out := .next (s.fpop .fdivd rd rs1 rs2 (formOpf rd 0b110100#6 rs1 0b001001110#9 rs2))

/-- FDIVx (R479). -/
def execFdivx (rd rs1 rs2 : Reg) (s : State) : Out := .next (s.fpop .fdivx rd rs1 rs2 (formOpf rd 0b110100#6 rs1 0b001001111#9 rs2))

/-- FCMPs (R481). -/
def execFcmps (rd rs1 rs2 : Reg) (s : State) : Out := .next (s.fpop .fcmps rd rs1 rs2 (formOpf rd 0b110101#6 rs1 0b001010001#9 rs2))

/-- FCMPd (R482). -/
def execFcmpd (rd rs1 rs2 : Reg) (s : State) : Out := .next (s.fpop .fcmpd rd rs1 rs2 (formOpf rd 0b110101#6 rs1 0b001010010#9 rs2))

/-- FCMPx (R483). -/
def execFcmpx (rd rs1 rs2 : Reg) (s : State) : Out := .next (s.fpop .fcmpx rd rs1 rs2 (formOpf rd 0b110101#6 rs1 0b001010011#9 rs2))

/-- FCMPEs (R484). -/
def execFcmpes (rd rs1 rs2 : Reg) (s : State) : Out := .next (s.fpop .fcmpes rd rs1 rs2 (formOpf rd 0b110101#6 rs1 0b001010101#9 rs2))

/-- FCMPEd (R485). -/
def execFcmped (rd rs1 rs2 : Reg) (s : State) : Out := .next (s.fpop .fcmped rd rs1 rs2 (formOpf rd 0b110101#6 rs1 0b001010110#9 rs2))

/-- FCMPEx (R486). -/
def execFcmpex (rd rs1 rs2 : Reg) (s : State) : Out := .next (s.fpop .fcmpex rd rs1 rs2 (formOpf rd 0b110101#6 rs1 0b001010111#9 rs2))

end Sys2Proof.Machine
end

