-- ==== Sys2Proof/Machine/Arith.lean ====
section
/-! DEFINITION. Add, subtract, their tagged forms and multiply step (spec 41 R260 to R281). -/

namespace Sys2Proof.Machine

/-- The destination register and the condition codes written together (R260, R261). -/
def State.writeFlagged (s : State) (rd : Reg) (result : Word) (flags : Icc) : State :=
  ((s.setReg .rdWrite rd result).putIcc flags).advance

/-- The carry as a word (R269, R278). -/
def State.carryWord (s : State) : Word := wordOfBool (s.seeIcc .carry).c

/-- The tagged overflow condition: the arithmetic overflow, or a nonzero tag (R271). -/
def taggedOverflow (operand1 operand2 : Word) (flags : Icc) : Bool := flags.v || tagged operand1 || tagged operand2

/-- ADD (R267). -/
def execAdd (rd rs1 : Reg) (src : Operand2) (s : State) : Out := .next ((s.setReg .rdWrite rd (s.reg .rs1 rs1 + s.op2val src)).advance)

/-- ADDcc (R268). -/
def execAddcc (rd rs1 : Reg) (src : Operand2) (s : State) : Out := .next (
    let a := s.reg .rs1 rs1
    let b := s.op2val src
    s.writeFlagged rd (a + b) (addFlags a b (a + b)))

/-- ADDX (R269). -/
def execAddx (rd rs1 : Reg) (src : Operand2) (s : State) : Out := .next ((s.setReg .rdWrite rd (s.reg .rs1 rs1 + s.op2val src + s.carryWord)).advance)

/-- ADDXcc (R270). -/
def execAddxcc (rd rs1 : Reg) (src : Operand2) (s : State) : Out := .next (
    let a := s.reg .rs1 rs1
    let b := s.op2val src
    let result := a + b + s.carryWord
    s.writeFlagged rd result (addFlags a b result))

/-- TADDcc (R272). -/
def execTaddcc (rd rs1 : Reg) (src : Operand2) (s : State) : Out := .next (
    let a := s.reg .rs1 rs1
    let b := s.op2val src
    let flags := addFlags a b (a + b)
    s.writeFlagged rd (a + b) { flags with v := taggedOverflow a b flags })

/-- TADDccTV (R273). -/
def execTaddcctv (rd rs1 : Reg) (src : Operand2) (s : State) : Out := .next (
    let a := s.reg .rs1 rs1
    let b := s.op2val src
    let flags := addFlags a b (a + b)
    if taggedOverflow a b flags then s.takeTrap .tagOverflow else s.writeFlagged rd (a + b) { flags with v := false })

/-- TSUBcc (R274). -/
def execTsubcc (rd rs1 : Reg) (src : Operand2) (s : State) : Out := .next (
    let a := s.reg .rs1 rs1
    let b := s.op2val src
    let flags := subFlags a b (a - b)
    s.writeFlagged rd (a - b) { flags with v := taggedOverflow a b flags })

/-- TSUBccTV (R275). -/
def execTsubcctv (rd rs1 : Reg) (src : Operand2) (s : State) : Out := .next (
    let a := s.reg .rs1 rs1
    let b := s.op2val src
    let flags := subFlags a b (a - b)
    if taggedOverflow a b flags then s.takeTrap .tagOverflow else s.writeFlagged rd (a - b) { flags with v := false })

/-- SUB (R276). -/
def execSub (rd rs1 : Reg) (src : Operand2) (s : State) : Out := .next ((s.setReg .rdWrite rd (s.reg .rs1 rs1 - s.op2val src)).advance)

/-- SUBcc (R277). -/
def execSubcc (rd rs1 : Reg) (src : Operand2) (s : State) : Out := .next (
    let a := s.reg .rs1 rs1
    let b := s.op2val src
    s.writeFlagged rd (a - b) (subFlags a b (a - b)))

/-- SUBX (R278). -/
def execSubx (rd rs1 : Reg) (src : Operand2) (s : State) : Out := .next ((s.setReg .rdWrite rd (s.reg .rs1 rs1 - s.op2val src - s.carryWord)).advance)

/-- SUBXcc (R279). -/
def execSubxcc (rd rs1 : Reg) (src : Operand2) (s : State) : Out := .next (
    let a := s.reg .rs1 rs1
    let b := s.op2val src
    let result := a - b - s.carryWord
    s.writeFlagged rd result (subFlags a b result))

/-- MULScc (R280). -/
def execMulscc (rd rs1 : Reg) (src : Operand2) (s : State) : Out := .next (
    let icc := s.seeIcc .condition
    let r1 := s.reg .rs1 rs1
    let y := s.see .yRead .y
    let operand1 := BitVec.ofBool (icc.n ^^ icc.v) ++ r1.extractLsb' 1 31
    let operand2 := if y.getLsbD 0 then s.op2val src else 0
    let result := operand1 + operand2
    (s.putY (BitVec.ofBool (r1.getLsbD 0) ++ y.extractLsb' 1 31)).writeFlagged rd result
      (addFlags operand1 operand2 result))

end Sys2Proof.Machine
end

