-- ==== Sys2Proof/Machine/Logic.lean ====
section
/-! DEFINITION. The logical instructions, the shifts and SETHI (spec 41 R282 to R301). -/

namespace Sys2Proof.Machine

/-- AND (R283). -/
def execAnd (rd rs1 : Reg) (src : Operand2) (s : State) : Out := .next ((s.setReg .rdWrite rd (s.reg .rs1 rs1 &&& s.op2val src)).advance)

/-- ANDcc (R284). -/
def execAndcc (rd rs1 : Reg) (src : Operand2) (s : State) : Out := .next (
    let result := s.reg .rs1 rs1 &&& s.op2val src
    s.writeFlagged rd result (logicFlags result))

/-- ANDN (R285). -/
def execAndn (rd rs1 : Reg) (src : Operand2) (s : State) : Out := .next ((s.setReg .rdWrite rd (s.reg .rs1 rs1 &&& ~~~s.op2val src)).advance)

/-- ANDNcc (R286). -/
def execAndncc (rd rs1 : Reg) (src : Operand2) (s : State) : Out := .next (
    let result := s.reg .rs1 rs1 &&& ~~~s.op2val src
    s.writeFlagged rd result (logicFlags result))

/-- OR (R287). -/
def execOr (rd rs1 : Reg) (src : Operand2) (s : State) : Out := .next ((s.setReg .rdWrite rd (s.reg .rs1 rs1 ||| s.op2val src)).advance)

/-- ORcc (R288). -/
def execOrcc (rd rs1 : Reg) (src : Operand2) (s : State) : Out := .next (
    let result := s.reg .rs1 rs1 ||| s.op2val src
    s.writeFlagged rd result (logicFlags result))

/-- ORN (R289). -/
def execOrn (rd rs1 : Reg) (src : Operand2) (s : State) : Out := .next ((s.setReg .rdWrite rd (s.reg .rs1 rs1 ||| ~~~s.op2val src)).advance)

/-- ORNcc (R290). -/
def execOrncc (rd rs1 : Reg) (src : Operand2) (s : State) : Out := .next (
    let result := s.reg .rs1 rs1 ||| ~~~s.op2val src
    s.writeFlagged rd result (logicFlags result))

/-- XOR (R291). -/
def execXor (rd rs1 : Reg) (src : Operand2) (s : State) : Out := .next ((s.setReg .rdWrite rd (s.reg .rs1 rs1 ^^^ s.op2val src)).advance)

/-- XORcc (R292). -/
def execXorcc (rd rs1 : Reg) (src : Operand2) (s : State) : Out := .next (
    let result := s.reg .rs1 rs1 ^^^ s.op2val src
    s.writeFlagged rd result (logicFlags result))

/-- XNOR (R293). -/
def execXnor (rd rs1 : Reg) (src : Operand2) (s : State) : Out := .next ((s.setReg .rdWrite rd (s.reg .rs1 rs1 ^^^ ~~~s.op2val src)).advance)

/-- XNORcc (R294). -/
def execXnorcc (rd rs1 : Reg) (src : Operand2) (s : State) : Out := .next (
    let result := s.reg .rs1 rs1 ^^^ ~~~s.op2val src
    s.writeFlagged rd result (logicFlags result))

/-- SLL (R297). -/
def execSll (rd rs1 : Reg) (count : ShiftCount) (s : State) : Out := .next ((s.setReg .rdWrite rd (s.reg .rs1 rs1 <<< s.shiftCount count)).advance)

/-- SRL (R298). -/
def execSrl (rd rs1 : Reg) (count : ShiftCount) (s : State) : Out := .next ((s.setReg .rdWrite rd (s.reg .rs1 rs1 >>> s.shiftCount count)).advance)

/-- SRA (R299). -/
def execSra (rd rs1 : Reg) (count : ShiftCount) (s : State) : Out := .next ((s.setReg .rdWrite rd ((s.reg .rs1 rs1).sshiftRight (s.shiftCount count))).advance)

/-- SETHI (R301). -/
def execSethi (rd : Reg) (imm : BitVec 22) (s : State) : Out := .next ((s.setReg .rdWrite rd (imm ++ 0#10)).advance)

end Sys2Proof.Machine
end

