-- ==== Sys2Proof/Machine/StateRegs.lean ====
section
/-! DEFINITION. Reading and writing Y, PSR, WIM and TBR, UNIMP and IFLUSH (spec 43 R410 to R426). -/

namespace Sys2Proof.Machine

/-- The PSR as one read sees it: each field in flight independently (R410, R416 item 6). -/
def State.seePsr (s : State) : Psr :=
  { icc := s.seeIcc (.stateRead 0)
    ec := s.seeBool (.stateRead 1) .ec
    ef := s.seeBool (.stateRead 2) .ef
    pil := s.seePil (.stateRead 3)
    s := s.seeBool (.stateRead 4) .s
    ps := s.seeBool (.stateRead 5) .ps
    et := s.seeBool (.stateRead 6) .et
    cwp := s.seeCwp (.stateRead 7) }

/-- r[rs1] xor op2val: what a write state register instruction writes (R417). -/
def State.writeValue (s : State) (rs1 : Reg) (src : Operand2) : Word := s.reg .rs1 rs1 ^^^ s.op2val src

/-- The writeable fields of the PSR from a word, each delayed (R413, R416). -/
def State.putPsrDelayed (s : State) (v : Word) : State :=
  let s1 := s.putDelayed .icc ((v.extractLsb' 20 4).setWidth 32)
  let s2 := s1.putDelayed .ec ((v.extractLsb' 13 1).setWidth 32)
  let s3 := s2.putDelayed .ef ((v.extractLsb' 12 1).setWidth 32)
  let s4 := s3.putDelayed .pil ((v.extractLsb' 8 4).setWidth 32)
  let s5 := s4.putDelayed .s ((v.extractLsb' 7 1).setWidth 32)
  let s6 := s5.putDelayed .ps ((v.extractLsb' 6 1).setWidth 32)
  let s7 := s6.putDelayed .et ((v.extractLsb' 5 1).setWidth 32)
  s7.putDelayed .cwp ((v.extractLsb' 0 5).setWidth 32)

/-- RDY (R411). -/
def execRdy (rd : Reg) (s : State) : Out := .next ((s.setReg .rdWrite rd (s.see .yRead .y)).advance)

/-- RDPSR (R412). -/
def execRdpsr (rd : Reg) (s : State) : Out := .next (s.privileged fun s => (s.setReg .rdWrite rd (psrWord s.cfg s.seePsr)).advance)

/-- RDWIM (R414). -/
def execRdwim (rd : Reg) (s : State) : Out := .next (s.privileged fun s => (s.setReg .rdWrite rd (s.see (.stateRead 8) .wim)).advance)

/-- RDTBR (R415). -/
def execRdtbr (rd : Reg) (s : State) : Out := .next (s.privileged fun s => (s.setReg .rdWrite rd (tbrWord (s.seeTba (.stateRead 9)) s.tt)).advance)

/-- WRY (R418). -/
def execWry (rs1 : Reg) (src : Operand2) (s : State) : Out := .next ((s.putDelayed .y (s.writeValue rs1 src)).advance)

/-- WRPSR (R413). -/
def execWrpsr (rs1 : Reg) (src : Operand2) (s : State) : Out := .next (
    let v := s.writeValue rs1 src
    if nwindows s.cfg ≤ (v.extractLsb' 0 5).toNat then s.takeTrap .illegalInstruction
    else s.privileged fun s => (s.putPsrDelayed v).advance)

/-- WRWIM (R419). -/
def execWrwim (rs1 : Reg) (src : Operand2) (s : State) : Out := .next (s.privileged fun s => (s.putDelayed .wim (s.writeValue rs1 src &&& wimMask s.cfg)).advance)

/-- WRTBR (R421). -/
def execWrtbr (rs1 : Reg) (src : Operand2) (s : State) : Out := .next (s.privileged fun s =>
    (s.putDelayed .tba (((s.writeValue rs1 src).extractLsb' 12 20).setWidth 32)).advance)

/-- UNIMP (R422). -/
def execUnimp (_const : BitVec 22) (s : State) : Out := .next (s.takeTrap .illegalInstruction)

/-- IFLUSH (R420). -/
def execIflush (rs1 : Reg) (src : Operand2) (s : State) : Out := .next (
    if s.cfg.iuCachePresent then s.advance.flushWord (s.ea rs1 src)
    else if s.cfg.extCachePresent then s.takeTrap .illegalInstruction
    else s.advance)

end Sys2Proof.Machine
end

