-- ==== Sys2Proof/Machine/Dispatch.lean ====
section
/-! DEFINITION. What each instruction does: one arm per constructor of Instr, each a direct call of its meaning. -/

namespace Sys2Proof.Machine

open Sys2Proof

def exec (i : Instr) (s : State) : Host.Outcome State Fault Refusal :=
  match i with
  | .ldsb rd rs1 src => Sys2Proof.Machine.execLdsb rd rs1 src s
  | .ldsh rd rs1 src => Sys2Proof.Machine.execLdsh rd rs1 src s
  | .ldub rd rs1 src => Sys2Proof.Machine.execLdub rd rs1 src s
  | .lduh rd rs1 src => Sys2Proof.Machine.execLduh rd rs1 src s
  | .ld rd rs1 src => Sys2Proof.Machine.execLd rd rs1 src s
  | .ldd rd rs1 src => Sys2Proof.Machine.execLdd rd rs1 src s
  | .ldsba rd rs1 rs2 asi => Sys2Proof.Machine.execLdsba rd rs1 rs2 asi s
  | .ldsha rd rs1 rs2 asi => Sys2Proof.Machine.execLdsha rd rs1 rs2 asi s
  | .lduba rd rs1 rs2 asi => Sys2Proof.Machine.execLduba rd rs1 rs2 asi s
  | .lduha rd rs1 rs2 asi => Sys2Proof.Machine.execLduha rd rs1 rs2 asi s
  | .lda rd rs1 rs2 asi => Sys2Proof.Machine.execLda rd rs1 rs2 asi s
  | .ldda rd rs1 rs2 asi => Sys2Proof.Machine.execLdda rd rs1 rs2 asi s
  | .ldf rd rs1 src => Sys2Proof.Machine.execLdf rd rs1 src s
  | .lddf rd rs1 src => Sys2Proof.Machine.execLddf rd rs1 src s
  | .ldfsr rs1 src => Sys2Proof.Machine.execLdfsr rs1 src s
  | .ldc rd rs1 src => Sys2Proof.Machine.execLdc rd rs1 src s
  | .lddc rd rs1 src => Sys2Proof.Machine.execLddc rd rs1 src s
  | .ldcsr rs1 src => Sys2Proof.Machine.execLdcsr rs1 src s
  | .stb rd rs1 src => Sys2Proof.Machine.execStb rd rs1 src s
  | .sth rd rs1 src => Sys2Proof.Machine.execSth rd rs1 src s
  | .st rd rs1 src => Sys2Proof.Machine.execSt rd rs1 src s
  | .std rd rs1 src => Sys2Proof.Machine.execStd rd rs1 src s
  | .stba rd rs1 rs2 asi => Sys2Proof.Machine.execStba rd rs1 rs2 asi s
  | .stha rd rs1 rs2 asi => Sys2Proof.Machine.execStha rd rs1 rs2 asi s
  | .sta rd rs1 rs2 asi => Sys2Proof.Machine.execSta rd rs1 rs2 asi s
  | .stda rd rs1 rs2 asi => Sys2Proof.Machine.execStda rd rs1 rs2 asi s
  | .stf rd rs1 src => Sys2Proof.Machine.execStf rd rs1 src s
  | .stdf rd rs1 src => Sys2Proof.Machine.execStdf rd rs1 src s
  | .stfsr rs1 src => Sys2Proof.Machine.execStfsr rs1 src s
  | .stdfq rs1 src => Sys2Proof.Machine.execStdfq rs1 src s
  | .stc rd rs1 src => Sys2Proof.Machine.execStc rd rs1 src s
  | .stdc rd rs1 src => Sys2Proof.Machine.execStdc rd rs1 src s
  | .stcsr rs1 src => Sys2Proof.Machine.execStcsr rs1 src s
  | .stdcq rs1 src => Sys2Proof.Machine.execStdcq rs1 src s
  | .ldstub rd rs1 src => Sys2Proof.Machine.execLdstub rd rs1 src s
  | .ldstuba rd rs1 rs2 asi => Sys2Proof.Machine.execLdstuba rd rs1 rs2 asi s
  | .swap rd rs1 src => Sys2Proof.Machine.execSwap rd rs1 src s
  | .swapa rd rs1 rs2 asi => Sys2Proof.Machine.execSwapa rd rs1 rs2 asi s
  | .add rd rs1 src => Sys2Proof.Machine.execAdd rd rs1 src s
  | .addcc rd rs1 src => Sys2Proof.Machine.execAddcc rd rs1 src s
  | .addx rd rs1 src => Sys2Proof.Machine.execAddx rd rs1 src s
  | .addxcc rd rs1 src => Sys2Proof.Machine.execAddxcc rd rs1 src s
  | .taddcc rd rs1 src => Sys2Proof.Machine.execTaddcc rd rs1 src s
  | .taddcctv rd rs1 src => Sys2Proof.Machine.execTaddcctv rd rs1 src s
  | .tsubcc rd rs1 src => Sys2Proof.Machine.execTsubcc rd rs1 src s
  | .tsubcctv rd rs1 src => Sys2Proof.Machine.execTsubcctv rd rs1 src s
  | .sub rd rs1 src => Sys2Proof.Machine.execSub rd rs1 src s
  | .subcc rd rs1 src => Sys2Proof.Machine.execSubcc rd rs1 src s
  | .subx rd rs1 src => Sys2Proof.Machine.execSubx rd rs1 src s
  | .subxcc rd rs1 src => Sys2Proof.Machine.execSubxcc rd rs1 src s
  | .mulscc rd rs1 src => Sys2Proof.Machine.execMulscc rd rs1 src s
  | .and rd rs1 src => Sys2Proof.Machine.execAnd rd rs1 src s
  | .andcc rd rs1 src => Sys2Proof.Machine.execAndcc rd rs1 src s
  | .andn rd rs1 src => Sys2Proof.Machine.execAndn rd rs1 src s
  | .andncc rd rs1 src => Sys2Proof.Machine.execAndncc rd rs1 src s
  | .or rd rs1 src => Sys2Proof.Machine.execOr rd rs1 src s
  | .orcc rd rs1 src => Sys2Proof.Machine.execOrcc rd rs1 src s
  | .orn rd rs1 src => Sys2Proof.Machine.execOrn rd rs1 src s
  | .orncc rd rs1 src => Sys2Proof.Machine.execOrncc rd rs1 src s
  | .xor rd rs1 src => Sys2Proof.Machine.execXor rd rs1 src s
  | .xorcc rd rs1 src => Sys2Proof.Machine.execXorcc rd rs1 src s
  | .xnor rd rs1 src => Sys2Proof.Machine.execXnor rd rs1 src s
  | .xnorcc rd rs1 src => Sys2Proof.Machine.execXnorcc rd rs1 src s
  | .sll rd rs1 count => Sys2Proof.Machine.execSll rd rs1 count s
  | .srl rd rs1 count => Sys2Proof.Machine.execSrl rd rs1 count s
  | .sra rd rs1 count => Sys2Proof.Machine.execSra rd rs1 count s
  | .sethi rd imm => Sys2Proof.Machine.execSethi rd imm s
  | .save rd rs1 src => Sys2Proof.Machine.execSave rd rs1 src s
  | .restore rd rs1 src => Sys2Proof.Machine.execRestore rd rs1 src s
  | .bn annul disp => Sys2Proof.Machine.execBn annul disp s
  | .be annul disp => Sys2Proof.Machine.execBe annul disp s
  | .ble annul disp => Sys2Proof.Machine.execBle annul disp s
  | .bl annul disp => Sys2Proof.Machine.execBl annul disp s
  | .bleu annul disp => Sys2Proof.Machine.execBleu annul disp s
  | .bcs annul disp => Sys2Proof.Machine.execBcs annul disp s
  | .bneg annul disp => Sys2Proof.Machine.execBneg annul disp s
  | .bvs annul disp => Sys2Proof.Machine.execBvs annul disp s
  | .ba annul disp => Sys2Proof.Machine.execBa annul disp s
  | .bne annul disp => Sys2Proof.Machine.execBne annul disp s
  | .bg annul disp => Sys2Proof.Machine.execBg annul disp s
  | .bge annul disp => Sys2Proof.Machine.execBge annul disp s
  | .bgu annul disp => Sys2Proof.Machine.execBgu annul disp s
  | .bcc annul disp => Sys2Proof.Machine.execBcc annul disp s
  | .bpos annul disp => Sys2Proof.Machine.execBpos annul disp s
  | .bvc annul disp => Sys2Proof.Machine.execBvc annul disp s
  | .fbn annul disp => Sys2Proof.Machine.execFbn annul disp s
  | .fbne annul disp => Sys2Proof.Machine.execFbne annul disp s
  | .fblg annul disp => Sys2Proof.Machine.execFblg annul disp s
  | .fbul annul disp => Sys2Proof.Machine.execFbul annul disp s
  | .fbl annul disp => Sys2Proof.Machine.execFbl annul disp s
  | .fbug annul disp => Sys2Proof.Machine.execFbug annul disp s
  | .fbg annul disp => Sys2Proof.Machine.execFbg annul disp s
  | .fbu annul disp => Sys2Proof.Machine.execFbu annul disp s
  | .fba annul disp => Sys2Proof.Machine.execFba annul disp s
  | .fbe annul disp => Sys2Proof.Machine.execFbe annul disp s
  | .fbue annul disp => Sys2Proof.Machine.execFbue annul disp s
  | .fbge annul disp => Sys2Proof.Machine.execFbge annul disp s
  | .fbuge annul disp => Sys2Proof.Machine.execFbuge annul disp s
  | .fble annul disp => Sys2Proof.Machine.execFble annul disp s
  | .fbule annul disp => Sys2Proof.Machine.execFbule annul disp s
  | .fbo annul disp => Sys2Proof.Machine.execFbo annul disp s
  | .cbn annul disp => Sys2Proof.Machine.execCbn annul disp s
  | .cb123 annul disp => Sys2Proof.Machine.execCb123 annul disp s
  | .cb12 annul disp => Sys2Proof.Machine.execCb12 annul disp s
  | .cb13 annul disp => Sys2Proof.Machine.execCb13 annul disp s
  | .cb1 annul disp => Sys2Proof.Machine.execCb1 annul disp s
  | .cb23 annul disp => Sys2Proof.Machine.execCb23 annul disp s
  | .cb2 annul disp => Sys2Proof.Machine.execCb2 annul disp s
  | .cb3 annul disp => Sys2Proof.Machine.execCb3 annul disp s
  | .cba annul disp => Sys2Proof.Machine.execCba annul disp s
  | .cb0 annul disp => Sys2Proof.Machine.execCb0 annul disp s
  | .cb03 annul disp => Sys2Proof.Machine.execCb03 annul disp s
  | .cb02 annul disp => Sys2Proof.Machine.execCb02 annul disp s
  | .cb023 annul disp => Sys2Proof.Machine.execCb023 annul disp s
  | .cb01 annul disp => Sys2Proof.Machine.execCb01 annul disp s
  | .cb013 annul disp => Sys2Proof.Machine.execCb013 annul disp s
  | .cb012 annul disp => Sys2Proof.Machine.execCb012 annul disp s
  | .call disp => Sys2Proof.Machine.execCall disp s
  | .jmpl rd rs1 src => Sys2Proof.Machine.execJmpl rd rs1 src s
  | .rett rs1 src => Sys2Proof.Machine.execRett rs1 src s
  | .tn rs1 src => Sys2Proof.Machine.execTn rs1 src s
  | .te rs1 src => Sys2Proof.Machine.execTe rs1 src s
  | .tle rs1 src => Sys2Proof.Machine.execTle rs1 src s
  | .tl rs1 src => Sys2Proof.Machine.execTl rs1 src s
  | .tleu rs1 src => Sys2Proof.Machine.execTleu rs1 src s
  | .tcs rs1 src => Sys2Proof.Machine.execTcs rs1 src s
  | .tneg rs1 src => Sys2Proof.Machine.execTneg rs1 src s
  | .tvs rs1 src => Sys2Proof.Machine.execTvs rs1 src s
  | .ta rs1 src => Sys2Proof.Machine.execTa rs1 src s
  | .tne rs1 src => Sys2Proof.Machine.execTne rs1 src s
  | .tg rs1 src => Sys2Proof.Machine.execTg rs1 src s
  | .tge rs1 src => Sys2Proof.Machine.execTge rs1 src s
  | .tgu rs1 src => Sys2Proof.Machine.execTgu rs1 src s
  | .tcc rs1 src => Sys2Proof.Machine.execTcc rs1 src s
  | .tpos rs1 src => Sys2Proof.Machine.execTpos rs1 src s
  | .tvc rs1 src => Sys2Proof.Machine.execTvc rs1 src s
  | .rdy rd => Sys2Proof.Machine.execRdy rd s
  | .rdpsr rd => Sys2Proof.Machine.execRdpsr rd s
  | .rdwim rd => Sys2Proof.Machine.execRdwim rd s
  | .rdtbr rd => Sys2Proof.Machine.execRdtbr rd s
  | .wry rs1 src => Sys2Proof.Machine.execWry rs1 src s
  | .wrpsr rs1 src => Sys2Proof.Machine.execWrpsr rs1 src s
  | .wrwim rs1 src => Sys2Proof.Machine.execWrwim rs1 src s
  | .wrtbr rs1 src => Sys2Proof.Machine.execWrtbr rs1 src s
  | .unimp const => Sys2Proof.Machine.execUnimp const s
  | .iflush rs1 src => Sys2Proof.Machine.execIflush rs1 src s
  | .fitos rd rs1 rs2 => Sys2Proof.Machine.execFitos rd rs1 rs2 s
  | .fitod rd rs1 rs2 => Sys2Proof.Machine.execFitod rd rs1 rs2 s
  | .fitox rd rs1 rs2 => Sys2Proof.Machine.execFitox rd rs1 rs2 s
  | .fstoi rd rs1 rs2 => Sys2Proof.Machine.execFstoi rd rs1 rs2 s
  | .fdtoi rd rs1 rs2 => Sys2Proof.Machine.execFdtoi rd rs1 rs2 s
  | .fxtoi rd rs1 rs2 => Sys2Proof.Machine.execFxtoi rd rs1 rs2 s
  | .fstod rd rs1 rs2 => Sys2Proof.Machine.execFstod rd rs1 rs2 s
  | .fstox rd rs1 rs2 => Sys2Proof.Machine.execFstox rd rs1 rs2 s
  | .fdtos rd rs1 rs2 => Sys2Proof.Machine.execFdtos rd rs1 rs2 s
  | .fdtox rd rs1 rs2 => Sys2Proof.Machine.execFdtox rd rs1 rs2 s
  | .fxtos rd rs1 rs2 => Sys2Proof.Machine.execFxtos rd rs1 rs2 s
  | .fxtod rd rs1 rs2 => Sys2Proof.Machine.execFxtod rd rs1 rs2 s
  | .fmovs rd rs1 rs2 => Sys2Proof.Machine.execFmovs rd rs1 rs2 s
  | .fnegs rd rs1 rs2 => Sys2Proof.Machine.execFnegs rd rs1 rs2 s
  | .fabss rd rs1 rs2 => Sys2Proof.Machine.execFabss rd rs1 rs2 s
  | .fsqrts rd rs1 rs2 => Sys2Proof.Machine.execFsqrts rd rs1 rs2 s
  | .fsqrtd rd rs1 rs2 => Sys2Proof.Machine.execFsqrtd rd rs1 rs2 s
  | .fsqrtx rd rs1 rs2 => Sys2Proof.Machine.execFsqrtx rd rs1 rs2 s
  | .fadds rd rs1 rs2 => Sys2Proof.Machine.execFadds rd rs1 rs2 s
  | .faddd rd rs1 rs2 => Sys2Proof.Machine.execFaddd rd rs1 rs2 s
  | .faddx rd rs1 rs2 => Sys2Proof.Machine.execFaddx rd rs1 rs2 s
  | .fsubs rd rs1 rs2 => Sys2Proof.Machine.execFsubs rd rs1 rs2 s
  | .fsubd rd rs1 rs2 => Sys2Proof.Machine.execFsubd rd rs1 rs2 s
  | .fsubx rd rs1 rs2 => Sys2Proof.Machine.execFsubx rd rs1 rs2 s
  | .fmuls rd rs1 rs2 => Sys2Proof.Machine.execFmuls rd rs1 rs2 s
  | .fmuld rd rs1 rs2 => Sys2Proof.Machine.execFmuld rd rs1 rs2 s
  | .fmulx rd rs1 rs2 => Sys2Proof.Machine.execFmulx rd rs1 rs2 s
  | .fdivs rd rs1 rs2 => Sys2Proof.Machine.execFdivs rd rs1 rs2 s
  | .fdivd rd rs1 rs2 => Sys2Proof.Machine.execFdivd rd rs1 rs2 s
  | .fdivx rd rs1 rs2 => Sys2Proof.Machine.execFdivx rd rs1 rs2 s
  | .fcmps rd rs1 rs2 => Sys2Proof.Machine.execFcmps rd rs1 rs2 s
  | .fcmpd rd rs1 rs2 => Sys2Proof.Machine.execFcmpd rd rs1 rs2 s
  | .fcmpx rd rs1 rs2 => Sys2Proof.Machine.execFcmpx rd rs1 rs2 s
  | .fcmpes rd rs1 rs2 => Sys2Proof.Machine.execFcmpes rd rs1 rs2 s
  | .fcmped rd rs1 rs2 => Sys2Proof.Machine.execFcmped rd rs1 rs2 s
  | .fcmpex rd rs1 rs2 => Sys2Proof.Machine.execFcmpex rd rs1 rs2 s
  | .cpop1 rd rs1 opc rs2 => Sys2Proof.Machine.execCpop1 rd rs1 opc rs2 s
  | .cpop2 rd rs1 opc rs2 => Sys2Proof.Machine.execCpop2 rd rs1 opc rs2 s

end Sys2Proof.Machine
end

