-- ==== Sys2Proof/Machine/Cycle.lean ====
section
/-! DEFINITION. The parts of the instruction cycle around exec: what each step begins with, interrupts, fetching, the hazard kind
of an instruction, and what happens in reset_mode and error_mode (spec 10 R41, 60 R512, R531, 70 R570, R575). -/

namespace Sys2Proof.Machine

/-- The kind of an instruction, for the hazard rules: floating-point and coprocessor instructions (R582, R583), conditional
branches (B*cc of R358, branch never among them), JMPL (R585). -/
def kindOf (i : Instr) : Kind :=
  match i with
  | .ldsb _ _ _ => Kind.plain
  | .ldsh _ _ _ => Kind.plain
  | .ldub _ _ _ => Kind.plain
  | .lduh _ _ _ => Kind.plain
  | .ld _ _ _ => Kind.plain
  | .ldd _ _ _ => Kind.plain
  | .ldsba _ _ _ _ => Kind.plain
  | .ldsha _ _ _ _ => Kind.plain
  | .lduba _ _ _ _ => Kind.plain
  | .lduha _ _ _ _ => Kind.plain
  | .lda _ _ _ _ => Kind.plain
  | .ldda _ _ _ _ => Kind.plain
  | .ldf _ _ _ => ⟨true, false, false, false⟩
  | .lddf _ _ _ => ⟨true, false, false, false⟩
  | .ldfsr _ _ => ⟨true, false, false, false⟩
  | .ldc _ _ _ => ⟨false, true, false, false⟩
  | .lddc _ _ _ => ⟨false, true, false, false⟩
  | .ldcsr _ _ => ⟨false, true, false, false⟩
  | .stb _ _ _ => Kind.plain
  | .sth _ _ _ => Kind.plain
  | .st _ _ _ => Kind.plain
  | .std _ _ _ => Kind.plain
  | .stba _ _ _ _ => Kind.plain
  | .stha _ _ _ _ => Kind.plain
  | .sta _ _ _ _ => Kind.plain
  | .stda _ _ _ _ => Kind.plain
  | .stf _ _ _ => ⟨true, false, false, false⟩
  | .stdf _ _ _ => ⟨true, false, false, false⟩
  | .stfsr _ _ => ⟨true, false, false, false⟩
  | .stdfq _ _ => ⟨true, false, false, false⟩
  | .stc _ _ _ => ⟨false, true, false, false⟩
  | .stdc _ _ _ => ⟨false, true, false, false⟩
  | .stcsr _ _ => ⟨false, true, false, false⟩
  | .stdcq _ _ => ⟨false, true, false, false⟩
  | .ldstub _ _ _ => Kind.plain
  | .ldstuba _ _ _ _ => Kind.plain
  | .swap _ _ _ => Kind.plain
  | .swapa _ _ _ _ => Kind.plain
  | .add _ _ _ => Kind.plain
  | .addcc _ _ _ => Kind.plain
  | .addx _ _ _ => Kind.plain
  | .addxcc _ _ _ => Kind.plain
  | .taddcc _ _ _ => Kind.plain
  | .taddcctv _ _ _ => Kind.plain
  | .tsubcc _ _ _ => Kind.plain
  | .tsubcctv _ _ _ => Kind.plain
  | .sub _ _ _ => Kind.plain
  | .subcc _ _ _ => Kind.plain
  | .subx _ _ _ => Kind.plain
  | .subxcc _ _ _ => Kind.plain
  | .mulscc _ _ _ => Kind.plain
  | .and _ _ _ => Kind.plain
  | .andcc _ _ _ => Kind.plain
  | .andn _ _ _ => Kind.plain
  | .andncc _ _ _ => Kind.plain
  | .or _ _ _ => Kind.plain
  | .orcc _ _ _ => Kind.plain
  | .orn _ _ _ => Kind.plain
  | .orncc _ _ _ => Kind.plain
  | .xor _ _ _ => Kind.plain
  | .xorcc _ _ _ => Kind.plain
  | .xnor _ _ _ => Kind.plain
  | .xnorcc _ _ _ => Kind.plain
  | .sll _ _ _ => Kind.plain
  | .srl _ _ _ => Kind.plain
  | .sra _ _ _ => Kind.plain
  | .sethi _ _ => Kind.plain
  | .save _ _ _ => Kind.plain
  | .restore _ _ _ => Kind.plain
  | .bn _ _ => ⟨false, false, true, false⟩
  | .be _ _ => ⟨false, false, true, false⟩
  | .ble _ _ => ⟨false, false, true, false⟩
  | .bl _ _ => ⟨false, false, true, false⟩
  | .bleu _ _ => ⟨false, false, true, false⟩
  | .bcs _ _ => ⟨false, false, true, false⟩
  | .bneg _ _ => ⟨false, false, true, false⟩
  | .bvs _ _ => ⟨false, false, true, false⟩
  | .ba _ _ => Kind.plain
  | .bne _ _ => ⟨false, false, true, false⟩
  | .bg _ _ => ⟨false, false, true, false⟩
  | .bge _ _ => ⟨false, false, true, false⟩
  | .bgu _ _ => ⟨false, false, true, false⟩
  | .bcc _ _ => ⟨false, false, true, false⟩
  | .bpos _ _ => ⟨false, false, true, false⟩
  | .bvc _ _ => ⟨false, false, true, false⟩
  | .fbn _ _ => ⟨true, false, true, false⟩
  | .fbne _ _ => ⟨true, false, true, false⟩
  | .fblg _ _ => ⟨true, false, true, false⟩
  | .fbul _ _ => ⟨true, false, true, false⟩
  | .fbl _ _ => ⟨true, false, true, false⟩
  | .fbug _ _ => ⟨true, false, true, false⟩
  | .fbg _ _ => ⟨true, false, true, false⟩
  | .fbu _ _ => ⟨true, false, true, false⟩
  | .fba _ _ => ⟨true, false, false, false⟩
  | .fbe _ _ => ⟨true, false, true, false⟩
  | .fbue _ _ => ⟨true, false, true, false⟩
  | .fbge _ _ => ⟨true, false, true, false⟩
  | .fbuge _ _ => ⟨true, false, true, false⟩
  | .fble _ _ => ⟨true, false, true, false⟩
  | .fbule _ _ => ⟨true, false, true, false⟩
  | .fbo _ _ => ⟨true, false, true, false⟩
  | .cbn _ _ => ⟨false, true, true, false⟩
  | .cb123 _ _ => ⟨false, true, true, false⟩
  | .cb12 _ _ => ⟨false, true, true, false⟩
  | .cb13 _ _ => ⟨false, true, true, false⟩
  | .cb1 _ _ => ⟨false, true, true, false⟩
  | .cb23 _ _ => ⟨false, true, true, false⟩
  | .cb2 _ _ => ⟨false, true, true, false⟩
  | .cb3 _ _ => ⟨false, true, true, false⟩
  | .cba _ _ => ⟨false, true, false, false⟩
  | .cb0 _ _ => ⟨false, true, true, false⟩
  | .cb03 _ _ => ⟨false, true, true, false⟩
  | .cb02 _ _ => ⟨false, true, true, false⟩
  | .cb023 _ _ => ⟨false, true, true, false⟩
  | .cb01 _ _ => ⟨false, true, true, false⟩
  | .cb013 _ _ => ⟨false, true, true, false⟩
  | .cb012 _ _ => ⟨false, true, true, false⟩
  | .call _ => Kind.plain
  | .jmpl _ _ _ => ⟨false, false, false, true⟩
  | .rett _ _ => Kind.plain
  | .tn _ _ => Kind.plain
  | .te _ _ => Kind.plain
  | .tle _ _ => Kind.plain
  | .tl _ _ => Kind.plain
  | .tleu _ _ => Kind.plain
  | .tcs _ _ => Kind.plain
  | .tneg _ _ => Kind.plain
  | .tvs _ _ => Kind.plain
  | .ta _ _ => Kind.plain
  | .tne _ _ => Kind.plain
  | .tg _ _ => Kind.plain
  | .tge _ _ => Kind.plain
  | .tgu _ _ => Kind.plain
  | .tcc _ _ => Kind.plain
  | .tpos _ _ => Kind.plain
  | .tvc _ _ => Kind.plain
  | .rdy _ => Kind.plain
  | .rdpsr _ => Kind.plain
  | .rdwim _ => Kind.plain
  | .rdtbr _ => Kind.plain
  | .wry _ _ => Kind.plain
  | .wrpsr _ _ => Kind.plain
  | .wrwim _ _ => Kind.plain
  | .wrtbr _ _ => Kind.plain
  | .unimp _ => Kind.plain
  | .iflush _ _ => Kind.plain
  | .fitos _ _ _ => ⟨true, false, false, false⟩
  | .fitod _ _ _ => ⟨true, false, false, false⟩
  | .fitox _ _ _ => ⟨true, false, false, false⟩
  | .fstoi _ _ _ => ⟨true, false, false, false⟩
  | .fdtoi _ _ _ => ⟨true, false, false, false⟩
  | .fxtoi _ _ _ => ⟨true, false, false, false⟩
  | .fstod _ _ _ => ⟨true, false, false, false⟩
  | .fstox _ _ _ => ⟨true, false, false, false⟩
  | .fdtos _ _ _ => ⟨true, false, false, false⟩
  | .fdtox _ _ _ => ⟨true, false, false, false⟩
  | .fxtos _ _ _ => ⟨true, false, false, false⟩
  | .fxtod _ _ _ => ⟨true, false, false, false⟩
  | .fmovs _ _ _ => ⟨true, false, false, false⟩
  | .fnegs _ _ _ => ⟨true, false, false, false⟩
  | .fabss _ _ _ => ⟨true, false, false, false⟩
  | .fsqrts _ _ _ => ⟨true, false, false, false⟩
  | .fsqrtd _ _ _ => ⟨true, false, false, false⟩
  | .fsqrtx _ _ _ => ⟨true, false, false, false⟩
  | .fadds _ _ _ => ⟨true, false, false, false⟩
  | .faddd _ _ _ => ⟨true, false, false, false⟩
  | .faddx _ _ _ => ⟨true, false, false, false⟩
  | .fsubs _ _ _ => ⟨true, false, false, false⟩
  | .fsubd _ _ _ => ⟨true, false, false, false⟩
  | .fsubx _ _ _ => ⟨true, false, false, false⟩
  | .fmuls _ _ _ => ⟨true, false, false, false⟩
  | .fmuld _ _ _ => ⟨true, false, false, false⟩
  | .fmulx _ _ _ => ⟨true, false, false, false⟩
  | .fdivs _ _ _ => ⟨true, false, false, false⟩
  | .fdivd _ _ _ => ⟨true, false, false, false⟩
  | .fdivx _ _ _ => ⟨true, false, false, false⟩
  | .fcmps _ _ _ => ⟨true, false, false, false⟩
  | .fcmpd _ _ _ => ⟨true, false, false, false⟩
  | .fcmpx _ _ _ => ⟨true, false, false, false⟩
  | .fcmpes _ _ _ => ⟨true, false, false, false⟩
  | .fcmped _ _ _ => ⟨true, false, false, false⟩
  | .fcmpex _ _ _ => ⟨true, false, false, false⟩
  | .cpop1 _ _ _ _ => ⟨false, true, false, false⟩
  | .cpop2 _ _ _ _ => ⟨false, true, false, false⟩

/-- The kind of an FPop whose opf is not assigned. -/
def kindFpop : Kind := ⟨true, false, false, false⟩

/-- The input signals of this step (R84, D8). -/
def State.sampleInputs (s : State) : State :=
  match s.coming with
  | [] => s
  | i :: rest => { s with inputs := i, coming := rest }

/-- Where the FPU is concurrent: the FPU steps before this IU step (R435). -/
def State.runFpu (s : State) : State :=
  if s.cfg.fpuConcurrent then
    match s.fpuSteps with
    | [] => s
    | n :: rest => State.fpuStepsWhile (fun _ => true) n { s with fpuSteps := rest }
  else s

/-- Where the coprocessor is concurrent, present and enabled: what it does on its own before this IU step (R23, R480); a disabled
coprocessor retains its state (R48). -/
def State.runCp (s : State) : State :=
  if s.cfg.cpConcurrent && s.cfg.cpPresent && s.seeBool .cpOwnStep .ec then s.setCp (Config.cpStep s.tick s.cp) else s

/-- What every step begins with: a new draw of free values, the input signals, and, in execute_mode, the steps of the FPU, one
more instruction for the delayed writes in flight and the step of the coprocessor (R41 step 2, R416). -/
def State.beginStep (s : State) : State :=
  let s1 := { s with tick := s.tick + 1 }.sampleInputs
  if s1.iu = .execute then
    let s2 := s1.runFpu
    { s2 with flight := ageFlight s2.flight }.runCp
  else s1

/-- An interrupt is recognised: ET = 1 and the level is 15 or above PIL (R512); never while annul is 1 (D10). -/
def State.interrupted (s : State) : Bool :=
  !s.annul && s.seeBool .interruptEnable .et &&
    (s.inputs.irl == 15 || decide ((s.seePil .interruptLevel).toNat < s.inputs.irl.toNat))

/-- The address space of the fetch: 8 for the user, 9 for the supervisor (R102); open after a RETT that no JMPL preceded
(R585). -/
def State.fetchAsi (s : State) : Byte :=
  if s.fetchOpen then (if s.freeBool .returnSpace then 8 else 9)
  else if s.seeBool .fetchSpace .s then 9 else 8

/-- The word a fetch of a key delivers: what memory holds, or, where it was stored to since the cache may have taken it, also
what it held before (R126, D5). -/
def State.fetchKey (s : State) (k : Nat) : Word :=
  match (s.stale.filter (fun e => e.key == k)).map (fun e => e.old) with
  | [] => Memory.word s.mem k
  | olds =>
    (Memory.word s.mem k :: olds).getD (Config.free s.tick .staleFetch % (olds.length + 1)) (Memory.word s.mem k)

/-- The fetch of the instruction at PC, or a memory exception (R41 step 4, R110); a device answers for itself (D3). -/
def State.fetch (s : State) : State × Option Word :=
  if s.onDevice s.fetchAsi s.pc then s.memoryRead .fetch s.fetchAsi s.pc 0b1111#4
  else (s, (s.locate .fetch s.fetchAsi s.pc).map s.fetchKey)

/-- A word that is a delayed control transfer: CALL, Bicc, FBfcc, CBccc, JMPL, RETT (R358). -/
def delayedTransfer (w : Word) : Bool :=
  match w.extractLsb' 30 2 with
  | 0b00#2 => w.extractLsb' 22 3 == 0b010#3 || w.extractLsb' 22 3 == 0b110#3 || w.extractLsb' 22 3 == 0b111#3
  | 0b01#2 => true
  | 0b10#2 => w.extractLsb' 19 6 == 0b111000#6 || w.extractLsb' 19 6 == 0b111001#6
  | _ => false

/-- A conditional branch and the delayed control transfer that it annuls: case 6 of R358, whose continuation is open, taken or not
(D15). -/
def State.annulledCouple (s : State) (r : Option Word) : Bool :=
  s.prev.conditional && (match r with
    | some w => delayedTransfer w
    | none => false)

/-- The skip of an annulled instruction, one indivisible step (R41 step 5). The word is fetched, as the environment sees, and an
exception of that fetch is discarded (D10, log entry 31). Where it completes a couple of case 6, PC and nPC are free word
addresses (R584, U22, D15, log entry 26). -/
def State.skip (s : State) : State :=
  let r := s.fetch
  let open6 := s.annulledCouple r.2
  { r.1 with annul := false
             pc := if open6 then s.freeAddress .couplePc else s.npc
             npc := if open6 then s.freeAddress .coupleNpc else s.npc + 4
             fetchOpen := false
             prev := { s.prev with conditional := false, jmpl := false } }

/-- The state an instruction is executed in: its kind is noted. -/
def State.executing (s : State) (k : Kind) : State := { s with current := k, fetchOpen := false }

/-- What a fetched word does that is no instruction: an unassigned opf is an FPop that the FPU does not implement (R158, R439);
any other raises illegal_instruction (R423). -/
def State.notAnInstruction (s : State) (e : DecodeError) (w : Word) : State :=
  match e with
  | .unassignedFpop =>
    (s.executing kindFpop).fpop .unassigned (fieldRd w) (fieldRs1 w) (fieldRs2 w) w
  | .truncated | .unassignedOp2 | .unassignedOp3 | .alternateImmediate =>
    (s.executing Kind.plain).takeTrap .illegalInstruction

/-- A word of FPop1, FPop2, CPop1 or CPop2 (R158). -/
def isOperate (w : Word) : Bool := w.extractLsb' 30 2 == 0b10#2 && w.extractLsb' 21 4 == 0b1101#4

/-- The word is an instruction, other than an FPop or a CPop, that this IU does not implement (R423, last row). -/
def leavesOut (cfg : Params) (w : Word) : Bool := !isOperate w && cfg.leftOut.any (fun p => w &&& p.1 == p.2)

/-- A fetched word executed (R41 step 5). -/
def State.executeWord (s : State) (w : Word) : Out :=
  match decodeWord w with
  | .ok i =>
    if leavesOut s.cfg w then .next ((s.executing Kind.plain).takeTrap .illegalInstruction)
    else exec i (s.executing (kindOf i))
  | .error e => .next (s.notAnInstruction e w)

/-- One cycle in execute_mode: reset, an interrupt, or the instruction at PC, skipped where it is annulled (R41, R570, R512). -/
def State.executeCycle (s : State) : Out :=
  if s.inputs.resetIn then .next s.enterReset
  else if s.interrupted then .next (s.trapEntry (.interruptLevel s.inputs.irl))
  else if s.annul then .next s.skip
  else
    match s.fetch with
    | (s1, none) => .next (s1.takeTrap .instructionAccessException)
    | (s1, some w) => s1.executeWord w

/-- error_mode: it lasts until reset is requested (R530, R531), or, where error_mode resets, ends in a reset trap (R575). -/
def State.errorCycle (s : State) : State :=
  if s.inputs.resetIn then s.enterReset else if s.cfg.errorResets then s.resetTrap else s

/-- reset_mode: it lasts while reset is requested, and ends in the reset trap (R570, R572). -/
def State.resetCycle (s : State) : State := if s.inputs.resetIn then s else s.resetTrap

/-! ### Placing an instruction -/

/-- The environment with storage, fetched without an exception, at an address of an address space. -/
def fetchable (cfg : Params) (asi : Byte) (addr : Word) : Params :=
  { cfg with
    devices := cfg.devices.filter (fun d => !coversDevice d asi (wordAddress addr))
    spaces := if (bankOf cfg asi).isSome then cfg.spaces else (asi, 0) :: cfg.spaces
    faults := cfg.faults.filter (fun r => !faultsAt r .fetch asi (wordAddress addr)) }

/-- The state with a word where its next step fetches: in execute_mode, nothing annulled, no reset or interrupt requested, no
FPU step or write of S pending that could come between, the address storage that answers, the instruction implemented. -/
def State.placeWord (s : State) (w : Word) : State :=
  let asi : Byte := if s.psr.s then 9 else 8
  let cfg := { fetchable s.cfg asi s.pc with leftOut := s.cfg.leftOut.filter (fun p => w &&& p.1 != p.2) }
  let k := memoryKey ((bankOf cfg asi).getD 0) (wordAddress s.pc)
  { s with
    cfg := cfg
    mem := Memory.setMasked s.mem k 0b1111#4 w
    stale := s.stale.filter (fun e => e.key != k)
    iu := .execute
    annul := false
    inputs := ⟨0, false⟩
    coming := []
    fpuSteps := []
    fetchOpen := false
    flight := s.settled .s }

end Sys2Proof.Machine
end

