-- ==== Sys2Proof/Machine/Step.lean ====
section
/-! DEFINITION. One step of the machine, and the placing of an instruction where the next step fetches. -/

namespace Sys2Proof.Machine

/-- One step: a cycle of the mode the IU is in (spec 10 R41, R81). -/
def step (s : State) : Host.Outcome State Fault Refusal :=
  let s1 := s.beginStep
  match s1.iu with
  | .execute => s1.executeCycle
  | .error => .next s1.errorCycle
  | .reset => .next s1.resetCycle

/-- The state with an instruction of one word, whose bits are w, stored where step fetches its next instruction. -/
def State.withFetchWord (s : State) (nbits w : Nat) : State := s.placeWord (BitVec.ofNat 32 (w % 2 ^ nbits))

end Sys2Proof.Machine
end

