-- ==== Sys2Proof/Safety.lean ====
section
/-! DEFINITION. The vocabulary of the claims: what a step keeps, what counts as a trap taken, when an instruction's unit is
ready, the invariant that every step keeps, and what a user-mode step may not touch. -/

namespace Sys2Proof.Machine

/-! ### Settled states -/

/-- No delayed write is in flight: every use of a state register's field sees its value (43 R416). -/
def State.quiet (s : State) : Prop := s.flight = []

/-- Register n of the current window. -/
def State.r (s : State) (n : Reg) : Word := s.regIn s.psr.cwp n

/-- The second operand in the current window (R147). -/
def State.operand (s : State) (src : Operand2) : Word :=
  match src with
  | .reg rs2 => s.r rs2
  | .imm simm13 => simm13.signExtend 32

/-- The effective address, jump target or trap number of an instruction in the current window (R200, R320). -/
def State.address (s : State) (rs1 : Reg) (src : Operand2) : Word := s.r rs1 + s.operand src

/-- The effective address of an alternate-space instruction in the current window (R200). -/
def State.addressA (s : State) (rs1 rs2 : Reg) : Word := s.r rs1 + s.r rs2

/-- The data space of the mode (R102). -/
def State.space (s : State) : Byte := if s.psr.s then 11 else 10

/-! ### What a step keeps -/

/-- Two names of registers in their windows name one register (R33 to R36). -/
def sameCell (cfg : Params) (w : BitVec 5) (n : Reg) (w' : BitVec 5) (n' : Reg) : Prop :=
  if n.toNat < 8 then n' = n else 8 ≤ n'.toNat ∧ windowCell cfg w n = windowCell cfg w' n'

/-- Every r register of every window reads as before. -/
def RegsKept (s t : State) : Prop := ∀ w n, t.regIn w n = s.regIn w n

/-- Every r register of every window but one reads as before. -/
def RegsKeptBut (s t : State) (w : BitVec 5) (n : Reg) : Prop :=
  ∀ w' n', ¬ sameCell s.cfg w n w' n' → t.regIn w' n' = s.regIn w' n'

/-- Every r register of every window but two reads as before. -/
def RegsKeptBut2 (s t : State) (w : BitVec 5) (n m : Reg) : Prop :=
  ∀ w' n', ¬ sameCell s.cfg w n w' n' → ¬ sameCell s.cfg w m w' n' → t.regIn w' n' = s.regIn w' n'

/-- Every byte of memory reads as before. -/
def MemKept (s t : State) : Prop := ∀ k, Memory.get t.mem k = Memory.get s.mem k

/-- Every byte of memory outside some bytes from a key on reads as before. -/
def MemKeptBut (s t : State) (k n : Nat) : Prop :=
  ∀ j, (j < k ∨ k + n ≤ j) → Memory.get t.mem j = Memory.get s.mem j

/-- A register of a window holds a value, or, where it is r[0], reads 0 (R31). -/
def Holds (t : State) (w : BitVec 5) (n : Reg) (v : Word) : Prop := t.regIn w n = if n = 0 then 0 else v

/-- PC and nPC after an instruction that is no control transfer (R42). -/
def Advanced (s t : State) : Prop := t.pc = s.npc ∧ t.npc = s.npc + 4

/-- The stored words that a fetch may still see old once one more instruction has completed: those not flushed (R126, D5). -/
def State.unflushed (s : State) : List StaleWord := s.stale.filter (fun e => !e.flushed)

/-- The same after an instruction that stores to the words of some keys, the last first: where a cache may hold old contents,
each of them is noted with what it held. -/
def State.noted (s : State) (keys : List Nat) : List StaleWord :=
  (if s.cached then keys.map (fun k => ⟨k, Memory.word s.mem k, false⟩) else []) ++ s.unflushed

/-- An instruction has completed in a state: the program counters are what they are, the instruction is now the one executed
last (R582 to R585), flushed words are fetched new (R126), and of the rest nothing differs. -/
def Completed (s t : State) : Prop := t = { s with pc := t.pc, npc := t.npc, prev := s.current, stale := s.unflushed }

/-- The instruction has completed, and nothing else but the r registers differs. -/
def OnlyRegs (s t : State) : Prop := Completed { s with globals := t.globals, windows := t.windows } t

/-- The instruction has completed, and nothing else but the r registers and icc differs. -/
def OnlyRegsIcc (s t : State) : Prop :=
  Completed { s with globals := t.globals, windows := t.windows, psr := { s.psr with icc := t.psr.icc } } t

/-- The instruction has completed, and nothing else but memory, and the words noted as stored to, differs. -/
def OnlyMem (s t : State) : Prop :=
  t = { s with pc := t.pc, npc := t.npc, prev := s.current, stale := t.stale, mem := t.mem }

/-- The instruction has completed, and nothing else but memory, the words noted as stored to, and the r registers differs. -/
def OnlyMemRegs (s t : State) : Prop :=
  t = { s with pc := t.pc, npc := t.npc, prev := s.current, stale := t.stale, mem := t.mem, globals := t.globals,
               windows := t.windows }

/-- The instruction has completed, and nothing else but the annul flag differs. -/
def OnlyPcs (s t : State) : Prop := Completed { s with annul := t.annul } t

/-- The instruction has completed, and nothing else but the FPU and the counter of free values differs. -/
def OnlyFpu (s t : State) : Prop := Completed { s with fpu := t.fpu, tick := t.tick } t

/-- The instruction has completed, and nothing else but the coprocessor differs. -/
def OnlyCp (s t : State) : Prop := Completed { s with cp := t.cp } t

/-- The instruction completes: r[rd] holds a value, and nothing else changes. -/
def WritesReg (s : State) (o : Out) (rd : Reg) (v : Word) : Prop :=
  ∃ t, o = .next t ∧ Advanced s t ∧ Holds t s.psr.cwp rd v ∧ RegsKeptBut s t s.psr.cwp rd ∧ MemKept s t ∧ OnlyRegs s t

/-- The instruction completes: r[rd] holds a value, icc is as given, and nothing else changes. -/
def WritesRegIcc (s : State) (o : Out) (rd : Reg) (v : Word) (icc : Icc) : Prop :=
  ∃ t, o = .next t ∧ Advanced s t ∧ Holds t s.psr.cwp rd v ∧ t.psr.icc = icc ∧ RegsKeptBut s t s.psr.cwp rd ∧
    MemKept s t ∧ OnlyRegsIcc s t

/-- The instruction completes: a pair of registers holds two values, and nothing else changes. -/
def WritesPair (s : State) (o : Out) (even odd : Reg) (v0 v1 : Word) : Prop :=
  ∃ t, o = .next t ∧ Advanced s t ∧ Holds t s.psr.cwp even v0 ∧ Holds t s.psr.cwp odd v1 ∧
    RegsKeptBut2 s t s.psr.cwp even odd ∧ MemKept s t ∧ OnlyRegs s t

/-- The instruction completes: the bytes from a key on are as given, the one or two words that hold them are noted as stored to,
and nothing else changes. -/
def StoresBytes (s : State) (o : Out) (k : Nat) (bytes : List Byte) : Prop :=
  ∃ t, o = .next t ∧ Advanced s t ∧ (∀ j (h : j < bytes.length), Memory.get t.mem (k + j) = bytes[j]) ∧
    MemKeptBut s t k bytes.length ∧ t.stale = s.noted (if bytes.length = 8 then [k + 4, k] else [k - k % 4]) ∧
    RegsKept s t ∧ OnlyMem s t

/-- The instruction completes: r[rd] holds a value, the bytes from a key on are as given, the word that holds them is
noted as stored to, and nothing else changes. -/
def Exchanges (s : State) (o : Out) (rd : Reg) (v : Word) (k : Nat) (bytes : List Byte) : Prop :=
  ∃ t, o = .next t ∧ Advanced s t ∧ Holds t s.psr.cwp rd v ∧ RegsKeptBut s t s.psr.cwp rd ∧
    (∀ j (h : j < bytes.length), Memory.get t.mem (k + j) = bytes[j]) ∧ MemKeptBut s t k bytes.length ∧
    t.stale = s.noted [k - k % 4] ∧ OnlyMemRegs s t

/-- The instruction completes with no effect but the advance. -/
def Passes (s : State) (o : Out) : Prop :=
  ∃ t, o = .next t ∧ Advanced s t ∧ t.annul = s.annul ∧ RegsKept s t ∧ MemKept s t ∧ OnlyPcs s t

/-- A delayed control transfer to a target, with the annul flag set or not (R321): PC takes nPC, nPC the target; a register may
be written with the address of the instruction. -/
def Transfers (s : State) (o : Out) (target : Word) (annul : Bool) : Prop :=
  ∃ t, o = .next t ∧ t.pc = s.npc ∧ t.npc = target ∧ t.annul = (s.annul || annul) ∧ RegsKept s t ∧ MemKept s t ∧
    OnlyPcs s t

/-- The state after trap entry (R520): tt, the status with traps disabled and the supervisor bit saved and set, the window below,
r[17] and r[18] of it, PC and nPC at the handler, no hazard of a branch couple or a JMPL before the handler (R584, R585);
nothing else changes. -/
def TrapEntered (s t : State) (tt : BitVec 8) : Prop :=
  let w := windowBelow s.cfg s.psr.cwp
  t.tt = tt ∧ t.psr = { s.psr with et := false, ps := s.psr.s, s := true, cwp := w } ∧
    t.pc = s.tba ++ tt ++ 0#4 ∧ t.npc = (s.tba ++ tt ++ 0#4) + 4 ∧ t.annul = false ∧
    t.regIn w 17 = s.pc ∧ t.regIn w 18 = s.npc ∧ RegsKeptBut2 s t w 17 18 ∧ MemKept s t ∧
    t = { s with tt := t.tt, psr := t.psr, pc := t.pc, npc := t.npc, annul := t.annul, globals := t.globals,
                 windows := t.windows, fetchOpen := false, prev := { s.prev with conditional := false, jmpl := false } }

/-- The answer is a trap's entry; or, where reset is requested at the check that follows, the trap is not taken (R570). -/
def Traps (s : State) (o : Out) (tt : BitVec 8) : Prop :=
  ∃ t, o = .next t ∧ if s.resetAhead = true then t = s else TrapEntered s t tt

/-- The state after entering error_mode, all else as it was (R530). -/
def ErrorEntered (s t : State) : Prop :=
  t.iu = .error ∧ t.fpu.mode = .error ∧ t.pbError = true ∧ MemKept s t ∧ RegsKept s t ∧
    t = { s with iu := t.iu, pbError := t.pbError, fpu := { s.fpu with mode := t.fpu.mode } }

/-- The answer is error_mode; or, where reset is requested at the check that follows, error_mode is not entered (R530, R570). -/
def Errs (s : State) (o : Out) : Prop := ∃ t, o = .next t ∧ if s.resetAhead = true then t = s else ErrorEntered s t

/-! ### Accesses -/

/-- The memory system signals an exception for an access that no device answers (R110, D4). -/
def State.refusedAt (s : State) (acc : Access) (asi : Byte) (addr : Word) : Prop :=
  s.onDevice asi addr = false ∧ s.locate acc asi addr = none

/-- A property of an access and its instruction, for the normal form, in the mode's data space, and, in supervisor mode, for the
alternate-space form, in the space it names (R201). -/
def State.bothForms (s : State) (rs1 rs2 : Reg) (src : Operand2) (asi : Byte) (p : Byte → Word → Instr → Prop)
    (normal alternate : Instr) : Prop :=
  p s.space (s.address rs1 src) normal ∧ (s.psr.s = true → p asi (s.addressA rs1 rs2) alternate)

/-- The state with a word at a key, as a store of it that is not yet complete leaves it: the word noted as stored to, all other
bytes as before. -/
def WordStored (s m : State) (k : Nat) (w : Word) : Prop :=
  Memory.word m.mem k = w ∧ MemKeptBut s m k 4 ∧
    m.stale = (if s.cached then [⟨k, Memory.word s.mem k, false⟩] else []) ++ s.stale

/-! ### Delayed writes and resets -/

/-- The delayed writes between two states (R416): of each field that differs the old value is in flight for three instructions, and
nothing else is. -/
def DelayedFrom (s t : State) : Prop :=
  (∀ f, ⟨f, s.live f, 3⟩ ∈ t.flight ↔ t.live f ≠ s.live f) ∧ ∀ p ∈ t.flight, p = ⟨p.field, s.live p.field, 3⟩

/-- The state after the reset trap (R572, R573); where the spec leaves PS, CWP and r[17], r[18] of the window below open, each is as it
was or as a trap's entry would leave it (D9). -/
def ResetTaken (s t : State) : Prop :=
  let w := windowBelow s.cfg s.psr.cwp
  t.psr = { s.psr with s := true, et := false, ps := t.psr.ps, cwp := t.psr.cwp } ∧
    (t.psr.ps = s.psr.ps ∨ t.psr.ps = s.psr.s) ∧ (t.psr.cwp = s.psr.cwp ∨ t.psr.cwp = w) ∧
    (t.regIn w 17 = s.regIn w 17 ∨ t.regIn w 17 = s.pc) ∧ (t.regIn w 18 = s.regIn w 18 ∨ t.regIn w 18 = s.npc) ∧
    RegsKeptBut2 s t w 17 18 ∧
    t.fpu = { s.fpu with mode := .execute, queue := [], fsr := { s.fpu.fsr with qne := t.fpu.fsr.qne } } ∧
    t = { s with iu := .execute, pbError := false, psr := t.psr, annul := false, pc := 0, npc := 4, globals := t.globals,
                 windows := t.windows, fpu := t.fpu, cp := Config.cpReset s.cp, flight := [], fetchOpen := false,
                 prev := Kind.plain, tick := t.tick }

/-! ### Units that are ready -/

/-- A floating-point instruction neither traps nor waits: enabled, present, no exception outstanding, nothing queued (48, R433,
R508). -/
def State.fpReady (s : State) : Prop :=
  s.quiet ∧ s.psr.ef = true ∧ s.cfg.fpuPresent = true ∧ s.fpu.mode = .execute ∧ s.fpu.queue = []

/-- A coprocessor instruction does not trap (R480, R509). -/
def State.cpReady (s : State) : Prop :=
  s.quiet ∧ s.psr.ec = true ∧ s.cfg.cpPresent = true ∧ s.cpPending = false

/-- Between two instructions neither the FPU nor the coprocessor does anything on its own (R436). -/
def State.unitsSequential (s : State) : Prop := s.cfg.fpuConcurrent = false ∧ s.cfg.cpConcurrent = false

/-! ### FPops -/

/-- An FPop with the operation it asks for and its registers rd, rs1, rs2. -/
inductive FpopOf : Instr → FpFn → Reg → Reg → Reg → Prop where
  | fitos (rd rs1 rs2 : Reg) : FpopOf (.fitos rd rs1 rs2) .fitos rd rs1 rs2
  | fitod (rd rs1 rs2 : Reg) : FpopOf (.fitod rd rs1 rs2) .fitod rd rs1 rs2
  | fitox (rd rs1 rs2 : Reg) : FpopOf (.fitox rd rs1 rs2) .fitox rd rs1 rs2
  | fstoi (rd rs1 rs2 : Reg) : FpopOf (.fstoi rd rs1 rs2) .fstoi rd rs1 rs2
  | fdtoi (rd rs1 rs2 : Reg) : FpopOf (.fdtoi rd rs1 rs2) .fdtoi rd rs1 rs2
  | fxtoi (rd rs1 rs2 : Reg) : FpopOf (.fxtoi rd rs1 rs2) .fxtoi rd rs1 rs2
  | fstod (rd rs1 rs2 : Reg) : FpopOf (.fstod rd rs1 rs2) .fstod rd rs1 rs2
  | fstox (rd rs1 rs2 : Reg) : FpopOf (.fstox rd rs1 rs2) .fstox rd rs1 rs2
  | fdtos (rd rs1 rs2 : Reg) : FpopOf (.fdtos rd rs1 rs2) .fdtos rd rs1 rs2
  | fdtox (rd rs1 rs2 : Reg) : FpopOf (.fdtox rd rs1 rs2) .fdtox rd rs1 rs2
  | fxtos (rd rs1 rs2 : Reg) : FpopOf (.fxtos rd rs1 rs2) .fxtos rd rs1 rs2
  | fxtod (rd rs1 rs2 : Reg) : FpopOf (.fxtod rd rs1 rs2) .fxtod rd rs1 rs2
  | fmovs (rd rs1 rs2 : Reg) : FpopOf (.fmovs rd rs1 rs2) .fmovs rd rs1 rs2
  | fnegs (rd rs1 rs2 : Reg) : FpopOf (.fnegs rd rs1 rs2) .fnegs rd rs1 rs2
  | fabss (rd rs1 rs2 : Reg) : FpopOf (.fabss rd rs1 rs2) .fabss rd rs1 rs2
  | fsqrts (rd rs1 rs2 : Reg) : FpopOf (.fsqrts rd rs1 rs2) .fsqrts rd rs1 rs2
  | fsqrtd (rd rs1 rs2 : Reg) : FpopOf (.fsqrtd rd rs1 rs2) .fsqrtd rd rs1 rs2
  | fsqrtx (rd rs1 rs2 : Reg) : FpopOf (.fsqrtx rd rs1 rs2) .fsqrtx rd rs1 rs2
  | fadds (rd rs1 rs2 : Reg) : FpopOf (.fadds rd rs1 rs2) .fadds rd rs1 rs2
  | faddd (rd rs1 rs2 : Reg) : FpopOf (.faddd rd rs1 rs2) .faddd rd rs1 rs2
  | faddx (rd rs1 rs2 : Reg) : FpopOf (.faddx rd rs1 rs2) .faddx rd rs1 rs2
  | fsubs (rd rs1 rs2 : Reg) : FpopOf (.fsubs rd rs1 rs2) .fsubs rd rs1 rs2
  | fsubd (rd rs1 rs2 : Reg) : FpopOf (.fsubd rd rs1 rs2) .fsubd rd rs1 rs2
  | fsubx (rd rs1 rs2 : Reg) : FpopOf (.fsubx rd rs1 rs2) .fsubx rd rs1 rs2
  | fmuls (rd rs1 rs2 : Reg) : FpopOf (.fmuls rd rs1 rs2) .fmuls rd rs1 rs2
  | fmuld (rd rs1 rs2 : Reg) : FpopOf (.fmuld rd rs1 rs2) .fmuld rd rs1 rs2
  | fmulx (rd rs1 rs2 : Reg) : FpopOf (.fmulx rd rs1 rs2) .fmulx rd rs1 rs2
  | fdivs (rd rs1 rs2 : Reg) : FpopOf (.fdivs rd rs1 rs2) .fdivs rd rs1 rs2
  | fdivd (rd rs1 rs2 : Reg) : FpopOf (.fdivd rd rs1 rs2) .fdivd rd rs1 rs2
  | fdivx (rd rs1 rs2 : Reg) : FpopOf (.fdivx rd rs1 rs2) .fdivx rd rs1 rs2
  | fcmps (rd rs1 rs2 : Reg) : FpopOf (.fcmps rd rs1 rs2) .fcmps rd rs1 rs2
  | fcmpd (rd rs1 rs2 : Reg) : FpopOf (.fcmpd rd rs1 rs2) .fcmpd rd rs1 rs2
  | fcmpx (rd rs1 rs2 : Reg) : FpopOf (.fcmpx rd rs1 rs2) .fcmpx rd rs1 rs2
  | fcmpes (rd rs1 rs2 : Reg) : FpopOf (.fcmpes rd rs1 rs2) .fcmpes rd rs1 rs2
  | fcmped (rd rs1 rs2 : Reg) : FpopOf (.fcmped rd rs1 rs2) .fcmped rd rs1 rs2
  | fcmpex (rd rs1 rs2 : Reg) : FpopOf (.fcmpex rd rs1 rs2) .fcmpex rd rs1 rs2

/-- Every f register but some reads as before. -/
def FregsKeptBut (s t : State) (l : List Reg) : Prop := ∀ n, n ∉ l → t.freg n = s.freg n

/-- The result of an FPop is in its place and in no other: an f register, the two or three of a double or an extended operand
(R441), fcc, or, for a move, an f register, ftt then being as it was or 0 (R447, R494, D12). -/
def ResultWritten (s t : State) (rd : Reg) (r : FpResult) : Prop :=
  match r with
  | .single w => t.freg rd = w ∧ FregsKeptBut s t [rd] ∧ t.fpu.fsr.fcc = s.fpu.fsr.fcc
  | .double d => t.double rd = d ∧ FregsKeptBut s t [pairHigh rd, pairLow rd] ∧ t.fpu.fsr.fcc = s.fpu.fsr.fcc
  | .extended x => t.extended rd = x ∧ FregsKeptBut s t [quadE rd, quadF rd, quadFLow rd] ∧ t.fpu.fsr.fcc = s.fpu.fsr.fcc
  | .fcc c => FregsKeptBut s t [] ∧ t.fpu.fsr.fcc = c
  | .move w =>
    t.freg rd = w ∧ FregsKeptBut s t [rd] ∧ t.fpu.fsr = { s.fpu.fsr with ftt := t.fpu.fsr.ftt } ∧
      (t.fpu.fsr.ftt = s.fpu.fsr.ftt ∨ t.fpu.fsr.ftt = 0)

/-- The fields of the FSR that no FPop writes. -/
def FsrControlKept (s t : State) : Prop :=
  t.fpu.fsr.rd = s.fpu.fsr.rd ∧ t.fpu.fsr.rp = s.fpu.fsr.rp ∧ t.fpu.fsr.tem = s.fpu.fsr.tem ∧ t.fpu.fsr.au = s.fpu.fsr.au ∧
    t.fpu.fsr.qne = s.fpu.fsr.qne

/-- An FPop has stopped the FPU (R437 to R439, R447): its entry is at the front, ftt names the type, and no f register, fcc or
aexc has changed. -/
def FpStopped (s t : State) (ftt : BitVec 3) (e : FqEntry) : Prop :=
  t.fpu.mode = .exceptionPending ∧ t.fpu.queue = [e] ∧ t.fpu.f = s.fpu.f ∧ t.fpu.fsr.ftt = ftt ∧
    t.fpu.fsr.fcc = s.fpu.fsr.fcc ∧ t.fpu.fsr.aexc = s.fpu.fsr.aexc ∧ FsrControlKept s t

/-- The FPU implements the operation, and finishes it on these operands. -/
def Finishes (cfg : Params) (fn : FpFn) (ans : FpAnswer) : Prop :=
  fn ∉ cfg.unimplemented ∧ (fn, ans.a, ans.b) ∉ cfg.unfinished

/-- A number: no infinity, no NaN, and nothing outside the architecture. -/
def FpNum.isNumber (v : FpNum) : Prop :=
  match v with
  | .zero _ => True
  | .finite _ m _ => m ≠ 0
  | _ => False

/-- A number as a rational; infinities and NaNs as 0. -/
def FpNum.value (v : FpNum) : ℚ :=
  match v with
  | .finite neg m e => (if neg then -1 else 1) * (m : ℚ) * (2 : ℚ) ^ e
  | _ => 0

/-- An operand of a precision as a number (R441 to R444). -/
def State.operandNum (s : State) (d : Dest) (r : Reg) : FpNum :=
  match d with
  | .single => unpackSingle (s.freg r)
  | .double => unpackDouble (s.double r)
  | .extended => unpackExtended (s.extended r)

/-- A result of a precision as a number. -/
def FpResult.num (r : FpResult) (d : Dest) : Option FpNum :=
  match r, d with
  | .single w, .single => some (unpackSingle w)
  | .double w, .double => some (unpackDouble w)
  | .extended w, .extended => some (unpackExtended w)
  | _, _ => none

/-- The format of a precision (R442 to R444). -/
def formatOf (d : Dest) : FpFormat :=
  match d with
  | .single => formatSingle
  | .double => formatDouble
  | .extended => formatExtended

/-- A value that a format holds, were its largest exponent not bounded. -/
def FpFormat.holds (fmt : FpFormat) (x : ℝ) : Prop :=
  ∃ m q : ℤ, |m| < 2 ^ fmt.precision ∧ fmt.emin - ((fmt.precision : ℤ) - 1) ≤ q ∧ x = (m : ℝ) * (2 : ℝ) ^ q

/-- The largest number of a format. -/
noncomputable def FpFormat.largest (fmt : FpFormat) : ℝ :=
  ((2 : ℝ) ^ fmt.precision - 1) * (2 : ℝ) ^ (fmt.emax - ((fmt.precision : ℤ) - 1))

/-- A value that a format holds with the last of its bits 0: of two neighbours, the even one. -/
def FpFormat.holdsEven (fmt : FpFormat) (x : ℝ) : Prop :=
  ∃ m q : ℤ, |m| < 2 ^ (fmt.precision - 1) ∧ fmt.emin - ((fmt.precision : ℤ) - 1) + 1 ≤ q ∧ x = (m : ℝ) * (2 : ℝ) ^ q

/-- A value v of a format is the rounding of x in the direction RD: 0 the nearest one, in a tie the even one; 1 the nearest of those no farther from zero; 2 the
least that is not below; 3 the greatest that is not above (R61, R449). -/
def FpFormat.rounds (fmt : FpFormat) (rd : BitVec 2) (x v : ℝ) : Prop :=
  fmt.holds v ∧
    (rd = 0 → ∀ w, fmt.holds w → |x - v| ≤ |x - w| ∧ (w ≠ v → |x - v| = |x - w| → fmt.holdsEven v)) ∧
    (rd = 1 → |v| ≤ |x| ∧ ∀ w, fmt.holds w → |w| ≤ |x| → |x - v| ≤ |x - w|) ∧
    (rd = 2 → x ≤ v ∧ ∀ w, fmt.holds w → x ≤ w → v ≤ w) ∧
    (rd = 3 → v ≤ x ∧ ∀ w, fmt.holds w → w ≤ x → w ≤ v)

/-- x is smaller than the smallest normalized number of a format: before rounding, or, once rounded to its precision as if no exponent
were too small, after it (U17, log entry 17). -/
def FpFormat.tiny (fmt : FpFormat) (before : Bool) (rd : BitVec 2) (x : ℝ) : Prop :=
  if before = true then |x| < (2 : ℝ) ^ fmt.emin
  else ∃ (e : ℤ) (u : ℝ), e ≤ fmt.emin ∧ (2 : ℝ) ^ e ≤ |x| ∧ { fmt with emin := e }.rounds rd x u ∧ |u| < (2 : ℝ) ^ fmt.emin

/-- An FPop's answer is a number, the rounding of x, with the inexact exception exactly where it differs from x, the underflow exception
exactly where, besides, x is tiny, and no invalid operation, overflow or division by zero (R70, R449). -/
def RoundedAnswer (s : State) (fn : FpFn) (rs1 rs2 : Reg) (d : Dest) (x : ℝ) : Prop :=
  ∃ a n, fpAnswer fn s rs1 rs2 = some a ∧ a.result.num d = some n ∧ n.isNumber ∧
    (formatOf d).rounds s.fpu.fsr.rd x (n.value : ℝ) ∧ a.texc &&& 0b11010#5 = 0 ∧
    (a.texc.getLsbD 0 = true ↔ (n.value : ℝ) ≠ x) ∧
    (a.texc.getLsbD 2 = true ↔
      (formatOf d).tiny s.cfg.tinyBeforeRounding s.fpu.fsr.rd x ∧ (n.value : ℝ) ≠ x)

/-- An FPop's answer is an overflow, with the overflow and the inexact exception alone: the infinity of x's sign, or the largest number
of that sign where RD points away from that infinity (R70, log entry 15). -/
def OverflowAnswer (s : State) (fn : FpFn) (rs1 rs2 : Reg) (d : Dest) (x : ℝ) : Prop :=
  let rd := s.fpu.fsr.rd
  ∃ a n, fpAnswer fn s rs1 rs2 = some a ∧ a.result.num d = some n ∧ a.texc = 0b01001#5 ∧
    (rd = 0 ∨ (rd = 2 ∧ 0 < x) ∨ (rd = 3 ∧ x < 0) → ∃ neg, n = .inf neg ∧ (neg = true ↔ x < 0)) ∧
    (rd = 1 ∨ (rd = 2 ∧ x < 0) ∨ (rd = 3 ∧ 0 < x) →
      n.isNumber ∧ (n.value : ℝ) = if x < 0 then -(formatOf d).largest else (formatOf d).largest)

/-- An FPop delivers the exact result x: rounded, or, where the rounding v of it is larger than the largest number, as an overflow. -/
def DeliveredAnswer (s : State) (fn : FpFn) (rs1 rs2 : Reg) (d : Dest) (x : ℝ) : Prop :=
  (|x| ≤ (formatOf d).largest → RoundedAnswer s fn rs1 rs2 d x) ∧
  ((formatOf d).largest < |x| → ∃ v, (formatOf d).rounds s.fpu.fsr.rd x v ∧
    (|v| ≤ (formatOf d).largest → RoundedAnswer s fn rs1 rs2 d x) ∧
    ((formatOf d).largest < |v| → OverflowAnswer s fn rs1 rs2 d x))

/-- An FPop's answer is some NaN, with the invalid exception alone (R448). -/
def InvalidAnswer (s : State) (fn : FpFn) (rs1 rs2 : Reg) (d : Dest) : Prop :=
  ∃ a n, fpAnswer fn s rs1 rs2 = some a ∧ a.result.num d = some n ∧ isNan n = true ∧ a.texc = 0b10000#5

/-! ### The invariant -/

/-- A word address (R43). -/
def wordAligned (a : Word) : Prop := a.toNat % 4 = 0

/-- The FPU's mode, queue and FSR agree (R75 to R77, R435, R436, R541 to R545): the queue has room for its entries; an outstanding
exception has its FPop at the front of the queue; in exception mode qne says so; ftt is a type that exists (R67); where the
FPU is sequential, execute mode has nothing queued. -/
def Fpu.consistent (cfg : Params) (u : Fpu) : Prop :=
  u.queue.length ≤ queueDepth cfg ∧
  (u.mode = .exceptionPending ∨ u.mode = .exception → u.queue ≠ []) ∧
  (u.mode = .exception → u.fsr.qne = true) ∧
  u.fsr.ftt.toNat ≤ 4 ∧
  (cfg.fpuConcurrent = false → u.mode = .execute → u.queue = [])

/-- A window number, and a window mask, of an implementation (R52, R56). -/
def validWindow (cfg : Params) (w : BitVec 5) : Prop := w.toNat < nwindows cfg
def validMask (cfg : Params) (m : Word) : Prop := m &&& ~~~wimMask cfg = 0

/-- An old value of a delayed write in flight was a value of its field, and is visible for three instructions at most (R416). -/
def InFlight.valid (cfg : Params) (p : InFlight) : Prop :=
  p.left ≤ 3 ∧ (p.field = .cwp → validWindow cfg (p.old.setWidth 5)) ∧ (p.field = .wim → validMask cfg p.old)

/-- What every step keeps: memory canonical; PC and nPC word addresses; CWP names a window and WIM has only implemented bits, also
among delayed writes; the FPU consistent; error_mode and reset_mode shared with the FPU and shown by pb_error. -/
def State.Inv (s : State) : Prop :=
  Memory.wf s.mem = true ∧ wordAligned s.pc ∧ wordAligned s.npc ∧
  validWindow s.cfg s.psr.cwp ∧ validMask s.cfg s.wim ∧ (∀ p ∈ s.flight, p.valid s.cfg) ∧
  s.fpu.consistent s.cfg ∧
  (s.fpu.mode = .error ↔ s.iu = .error) ∧ (s.fpu.mode = .reset ↔ s.iu = .reset) ∧
  (s.pbError = true ↔ s.iu = .error)

/-! ### User mode -/

/-- Executing in user mode, with no delayed write in flight but of Y and icc, the fields that user mode may write. -/
def State.userMode (s : State) : Prop :=
  s.iu = .execute ∧ s.psr.s = false ∧ s.fetchOpen = false ∧ ∀ p ∈ s.flight, p.field = .y ∨ p.field = .icc

/-- The supervisor's registers and fields are as they were (R55, R410). -/
def SupervisorKept (s t : State) : Prop :=
  t.wim = s.wim ∧ t.tba = s.tba ∧ t.tt = s.tt ∧ t.cfg = s.cfg ∧
    t.psr = { s.psr with icc := t.psr.icc, cwp := t.psr.cwp }

/-- Every byte outside the storage of the user data space reads as before. -/
def OutsideUserDataKept (s t : State) : Prop :=
  ∀ k, (∀ b, bankOf s.cfg 10 = some b → k < b * 2 ^ 32 ∨ (b + 1) * 2 ^ 32 ≤ k) → Memory.get t.mem k = Memory.get s.mem k

/-! ### Safe runs -/

/-- A run is safe while it never enters error_mode: for every number of steps from a state. -/
def SafeFrom (s : State) : Prop := ∀ n t, Sys2Proof.core.run n s = .next t → t.iu ≠ .error

end Sys2Proof.Machine
end

