-- ==== Sys2Proof/Certificates/Slice0/Obligations.lean ====
section
/-! DEFINITION. The statements for the provers: what the spec says each instruction and the machine do. The vocabulary is that of
Safety. -/

open Sys2Proof Sys2Proof.Machine

/-- For every well-formed instruction, decoding the word that encode writes for it gives exactly that instruction,
every operand at every value. (30_encoding.md R141 to R157) -/
def Obligations.DecodeEncodeRoundTrip : Prop :=
  ∀ i : Instr, i.WellFormed → decodeWord (encode i) = .ok i

/-- Decoding the four bytes of a well-formed instruction, the byte with bits 31 to 24 first, followed by any bytes,
gives the instruction and the bytes that follow. (20_memory.md R105; 30_encoding.md R141) -/
def Obligations.DecodeFromBytes : Prop :=
  ∀ (i : Instr) (rest : List Byte), i.WellFormed →
    decode ((encode i).extractLsb' 24 8 :: (encode i).extractLsb' 16 8 :: (encode i).extractLsb' 8 8 ::
      (encode i).extractLsb' 0 8 :: rest) = .ok (i, rest)

/-- Example words of the spec decode to the instructions the spec gives for them, one from each of several families.
(40_load_store.md R213; 41_arith_logic.md R267; 42_control_transfer.md R370; 43_state_regs_misc.md R422;
44_fpop_cpop.md R451) -/
def Obligations.WordsOfTheSpecDecode : Prop :=
  decodeWord 0xC4C84163#32 = .ok (.ldsba 2 1 3 0x0B) ∧
    decodeWord 0x86004002#32 = .ok (.add 3 1 (.reg 2)) ∧
    decodeWord 0x9DE3BFC0#32 = .ok (.save 14 14 (.imm (-64))) ∧
    decodeWord 0x7FFFFFFE#32 = .ok (.call (-2)) ∧
    decodeWord 0x0000000C#32 = .ok (.unimp 12) ∧
    decodeWord 0x85A01901#32 = .ok (.fitod 2 0 1) ∧
    decodeWord 0xC1306000#32 = .ok (.stdfq 1 (.imm 0)) ∧
    decodeWord 0x32800007#32 = .ok (.bne true 7) ∧
    decodeWord 0x91D02003#32 = .ok (.ta 0 (.imm 3)) ∧
    decodeWord 0x87287FE4#32 = .ok (.sll 3 1 (.imm 4))

/-- In execute mode, with no reset or interrupt requested, nothing annulled, no delayed write in flight, the units
sequential, no stale word and the instruction not among those left out of the IU, a step at a state whose word at PC
encodes a well-formed instruction is exec of it at that state, its kind noted and the free-value counter advanced.
(10_state.md R41; 20_memory.md R102) -/
def Obligations.StepRunsFetchedInstruction : Prop :=
  ∀ (s : State) (i : Instr) (k : Nat), s.iu = .execute → s.inputs = ⟨0, false⟩ → s.coming = [] → s.quiet → s.annul =
    false →
    s.fetchOpen = false → s.stale = [] → s.unitsSequential → leavesOut s.cfg (encode i) = false → i.WellFormed →
    s.locate .fetch (if s.psr.s then 9 else 8) s.pc = some k → Memory.word s.mem k = encode i →
    step s = exec i { s with tick := s.tick + 1, current := kindOf i }

/-- From any state with canonical memory, after placing a word that decodes to an instruction, the next step is exec
of that instruction, after what every step begins with. (10_state.md R41) -/
def Obligations.PlacedWordIsExecuted : Prop :=
  ∀ (s : State) (w : Nat) (i : Instr), Memory.wf s.mem = true → w < 2 ^ 32 → decodeWord (BitVec.ofNat 32 w) = .ok i →
    step (s.withFetchWord 32 w) = exec i ((s.withFetchWord 32 w).beginStep.executing (kindOf i))

/-- No instruction is refused and no state is a fault: exec and step always answer a next state. For the traps and
error_mode the spec says so (R530, R531: a trap that cannot be taken puts the processor in error_mode, which is a
state). For STDFQ with an empty queue or outside exception mode it is the model's choice: U9 of file 93 has 'refuse'
for proofs and gives an executable default, and the model runs that default (log entry 24, DESIGN CHOICE).
(60_exceptions.md R530; 60_exceptions.md R531; 40_load_store.md R243) -/
def Obligations.EveryStepAnswersNext : Prop :=
  (∀ (i : Instr) (s : State), ∃ t, exec i s = .next t) ∧ (∀ s : State, ∃ t, step s = .next t)

/-- In execute mode with ET = 1 and nothing annulled, no reset requested, the units sequential and no delayed write in
flight, an interrupt request level that is 15 or greater than PIL makes the step the entry of interrupt_level_n with
tt = 16 + n, at the very first check that sees it (D8, log entry 10, DESIGN CHOICE of the spec's file 92). With no
delayed write in flight, an interrupt is not recognised where ET = 0, nor where its level is not 15 and not greater
than PIL, nor while an instruction is to be annulled (D10, log entry 31, DESIGN CHOICE of the spec's file 92).
(60_exceptions.md R512; 60_exceptions.md R502; 60_exceptions.md R520; 10_state.md R49) -/
def Obligations.InterruptRecognition : Prop :=
  (∀ s : State, s.iu = .execute → s.inputs.resetIn = false → s.coming = [] → s.quiet → s.annul = false →
    s.unitsSequential → s.psr.et = true → (s.inputs.irl = 15 ∨ s.psr.pil.toNat < s.inputs.irl.toNat) →
    ∃ t, step s = .next t ∧
      TrapEntered { s with tick := s.tick + 1 } t (BitVec.ofNat 8 (16 + s.inputs.irl.toNat))) ∧
  (∀ s : State, s.quiet →
    (s.psr.et = false ∨ s.annul = true ∨ (s.inputs.irl ≠ 15 ∧ s.inputs.irl.toNat ≤ s.psr.pil.toNat)) → s.interrupted
        = false)

/-- In execute mode with no reset requested, the units sequential and no device at PC, a step at a state whose annul
flag is set clears it; where no conditional branch came directly before, PC and nPC advance, whatever word lies at PC;
and nothing else changes, but that no instruction is then the conditional branch or JMPL of a hazard. That no
interrupt is taken there, whatever level is requested, and that an exception of the annulled instruction's fetch is
discarded is decision D10 of the spec's file 92 (log entry 31, DESIGN CHOICE); that an annulled instruction counts as
no predecessor of the next is the model's choice (log entry 25). (10_state.md R41; 42_control_transfer.md R321) -/
def Obligations.AnnulledInstructionIsSkipped : Prop :=
  ∀ s : State, s.iu = .execute → s.inputs.resetIn = false → s.coming = [] → s.quiet → s.annul = true →
    s.unitsSequential → s.onDevice 8 s.pc = false → s.onDevice 9 s.pc = false →
    ∃ t, step s = .next t ∧ (s.prev.conditional = false → Advanced s t) ∧ RegsKept s t ∧ MemKept s t ∧
      t = { s with pc := t.pc, npc := t.npc, annul := false, fetchOpen := false, tick := t.tick,
                   prev := { s.prev with conditional := false, jmpl := false } }

/-- In execute mode with no reset or interrupt requested, nothing annulled, no delayed write in flight, the units
sequential and ET = 1, where the memory system signals an exception for the fetch at PC the step is the entry of
instruction_access_exception, tt = 1. With traps enabled and no delayed write in flight, executing a word that decodes
to no instruction, other than an FPop with an unassigned opf, is the entry of illegal_instruction, tt = 2, and so is
executing an instruction, other than an FPop or a CPop, that the IU does not implement. With the FPU ready and
sequential, executing a word of FPop1 or FPop2 with an unassigned opf advances the IU, leaves the word and its address
at the front of the queue, sets ftt to 3 and puts the FPU in exception_pending mode; no f register, fcc or aexc and
nothing outside the FPU changes. (10_state.md R41; 60_exceptions.md R502; 43_state_regs_misc.md R423; 44_fpop_cpop.md
R439) -/
def Obligations.NoInstructionAtPc : Prop :=
  (∀ s : State, s.iu = .execute → s.inputs = ⟨0, false⟩ → s.coming = [] → s.quiet → s.annul = false → s.fetchOpen =
    false →
    s.unitsSequential → s.psr.et = true → s.refusedAt .fetch (if s.psr.s then 9 else 8) s.pc →
    ∃ t, step s = .next t ∧ TrapEntered { s with tick := s.tick + 1 } t 1) ∧
  (∀ (s : State) (w : Word) (e : DecodeError), s.quiet → s.psr.et = true → decodeWord w = .error e → e ≠
      .unassignedFpop →
    Traps (s.executing Kind.plain) (s.executeWord w) 2) ∧
  (∀ (s : State) (w : Word) (i : Instr), s.quiet → s.psr.et = true → decodeWord w = .ok i → leavesOut s.cfg w = true →
    Traps (s.executing Kind.plain) (s.executeWord w) 2) ∧
  (∀ (s : State) (w : Word), s.fpReady → s.cfg.fpuConcurrent = false → decodeWord w = .error .unassignedFpop →
    ∃ t, s.executeWord w = .next t ∧ Advanced s t ∧ RegsKept s t ∧ MemKept s t ∧ OnlyFpu (s.executing kindFpop) t ∧
      FpStopped s t 3 ⟨s.pc, w, .unassigned, fieldRd w, fieldRs1 w, fieldRs2 w⟩)

/-- Where bp_reset_in is asserted, a step from any mode leaves the IU and the FPU in reset_mode with pb_error clear,
and no register, program counter, status field or byte of memory changed, with no delayed write in flight and the
units sequential. (70_reset_and_hazards.md R570; 70_reset_and_hazards.md R571) -/
def Obligations.ResetRequestEntersResetMode : Prop :=
  ∀ s : State, s.inputs.resetIn = true → s.coming = [] → s.quiet → s.unitsSequential → (s.iu = .reset →
    s.Inv) →
    ∃ t, step s = .next t ∧ t.iu = .reset ∧ t.fpu.mode = .reset ∧ t.pbError = false ∧ RegsKept s t ∧ MemKept s t ∧
      t = { s with iu := t.iu, pbError := t.pbError, fpu := { s.fpu with mode := t.fpu.mode }, tick := t.tick }

/-- In reset_mode with bp_reset_in deasserted, a step enters execute_mode with the FPU in fpu_execute_mode: PC = 0,
nPC = 4, S = 1, ET = 0, annul = 0, pb_error = 0; icc, PIL, EF, EC, WIM, TBR with tt, Y, every f register, the FSR but
qne, memory and every r register but r[17] and r[18] of the window below CWP keep their values. PS, CWP, that r[17]
and that r[18] are each as it was or as a trap's entry would leave it: S, the window below, PC and nPC (D9). The queue
is empty and qne open (U24, log entry 28, DESIGN CHOICE); the coprocessor is what its own reset makes of it; a delayed
write in flight has taken effect (D16, log entry 12, DESIGN CHOICE of the spec's file 92); no instruction before the
reset is a hazard's predecessor afterwards (log entry 37) and words noted as stored to stay noted (log entry 32), both
the model's choice. In error_mode with no reset requested, where the implementation turns error_mode into a reset
(D11, a parameter), a step does the same. (70_reset_and_hazards.md R572; 70_reset_and_hazards.md R573;
70_reset_and_hazards.md R575) -/
def Obligations.ResetTrapState : Prop :=
  (∀ s : State, s.iu = .reset → s.inputs.resetIn = false → s.coming = [] → ∃ t, step s = .next t ∧ ResetTaken s t) ∧
  (∀ s : State, s.iu = .error → s.inputs.resetIn = false → s.coming = [] → s.cfg.errorResets = true →
    ∃ t, step s = .next t ∧ ResetTaken s t)

/-- In error_mode, in every state that meets the invariant, pb_error is asserted and the FPU is in its error mode.
Where no reset is requested and the implementation does not turn error_mode into a reset, a step changes nothing but
the model's counter of free values. Where reset is requested, a step enters reset_mode: the FPU with it, pb_error no
longer asserted, memory, every register and all else unchanged. (60_exceptions.md R531) -/
def Obligations.ErrorModeHoldsUntilReset : Prop :=
  ∀ s : State, s.Inv → s.iu = .error → s.coming = [] →
    s.pbError = true ∧ s.fpu.mode = .error ∧
    (s.inputs.resetIn = false → s.cfg.errorResets = false → step s = .next { s with tick := s.tick + 1 }) ∧
    (s.inputs.resetIn = true → ∃ t, step s = .next t ∧ t.iu = .reset ∧
      t = { s with iu := .reset, fpu := { s.fpu with mode := .reset }, pbError := false, tick := s.tick + 1 })

/-- The state right after reset meets the invariant that every step keeps. (70_reset_and_hazards.md R572;
70_reset_and_hazards.md R574) -/
def Obligations.ResetStateHasInvariant : Prop :=
  State.reset.Inv

/-- From every state that meets the invariant, whatever the step does, the next state meets it: memory canonical, PC
and nPC word addresses, CWP a window and WIM within the implemented windows (delayed writes included), the FPU's mode,
queue, qne and ftt consistent, error_mode and reset_mode shared by both units and shown by pb_error. (10_state.md R52;
10_state.md R56; 10_state.md R75; 10_state.md R77; 60_exceptions.md R530; 60_exceptions.md R545) -/
def Obligations.StepKeepsInvariant : Prop :=
  ∀ s t : State, s.Inv → step s = .next t → t.Inv

/-- From a state executing in user mode, a step either stays in user mode with WIM, TBR and every field of the PSR but
icc and CWP unchanged, or is a trap entry to an address of the trap table with S = 1, PS = 0 and ET = 0, or enters
error_mode or reset_mode. (60_exceptions.md R550) -/
def Obligations.OnlyTrapsLeaveUserMode : Prop :=
  ∀ s t : State, s.userMode → step s = .next t →
    (t.userMode ∧ SupervisorKept s t) ∨
    (t.iu = .execute ∧ t.psr.s = true ∧ t.psr.ps = false ∧ t.psr.et = false ∧ t.wim = s.wim ∧ t.tba = s.tba ∧
      t.psr.pil = s.psr.pil ∧ t.psr.ef = s.psr.ef ∧ t.psr.ec = s.psr.ec ∧ t.pc = s.tba ++ t.tt ++ 0#4 ∧ t.npc = t.pc
          + 4) ∨
    t.iu = .error ∨ t.iu = .reset

/-- From a state executing in user mode with canonical memory, whatever the step does, every byte of memory outside
the storage behind address space 10 reads as before. (20_memory.md R102; 40_load_store.md R201) -/
def Obligations.UserStoresStayInUserData : Prop :=
  ∀ s t : State, s.userMode → Memory.wf s.mem = true → step s = .next t → OutsideUserDataKept s t

/-- For every window w of the implementation, register n from 24 to 31 of window w is register n - 16 of window (w +
1) mod NWINDOWS, register n from 8 to 15 is register n + 16 of window (w - 1) mod NWINDOWS, and registers 0 to 7 are
the same in every window. (10_state.md R32; 10_state.md R33; 10_state.md R34) -/
def Obligations.WindowsOverlap : Prop :=
  ∀ (s : State) (w : BitVec 5) (n : Reg), w.toNat < nwindows s.cfg →
    (24 ≤ n.toNat → s.regIn w n = s.regIn (BitVec.ofNat 5 ((w.toNat + 1) % nwindows s.cfg)) (n - 16)) ∧
    (8 ≤ n.toNat → n.toNat < 16 →
      s.regIn w n = s.regIn (BitVec.ofNat 5 ((w.toNat + nwindows s.cfg - 1) % nwindows s.cfg)) (n + 16)) ∧
    (n.toNat < 8 → ∀ w', s.regIn w n = s.regIn w' n)

/-- In every window r[0] reads 0, and writing r[0] leaves the whole state as it was. (10_state.md R31) -/
def Obligations.RegisterZeroReadsZero : Prop :=
  ∀ (s : State) (w : BitVec 5) (v : Word), s.regIn w 0 = 0 ∧ s.setRegIn w 0 v = s

/-- With no delayed write in flight, each of ADD, ADDX, SUB, SUBX, AND, ANDN, OR, ORN, XOR and XNOR completes: r[rd]
(nothing for r[0]) holds the sum, difference or logical function of r[rs1] and the second operand, ADDX and SUBX
taking in the carry; PC and nPC advance; every other register of every window, icc, every other piece of state and
every byte of memory are unchanged. With no delayed write in flight, SLL, SRL and SRA complete with r[rd] the value of
r[rs1] times, or divided by, two to the count (unsigned; for SRA signed, rounded down), the count being the low five
bits of r[rs2] or shcnt; SETHI completes with r[rd] the constant times 1024; nothing else changes. (41_arith_logic.md
R260; 41_arith_logic.md R267; 41_arith_logic.md R269; 41_arith_logic.md R276; 41_arith_logic.md R278;
41_arith_logic.md R283 to R293; 10_state.md R31; 41_arith_logic.md R296; 41_arith_logic.md R297; 41_arith_logic.md
R298; 41_arith_logic.md R299; 41_arith_logic.md R301) -/
def Obligations.RegisterResults : Prop :=
  (∀ (s : State) (rd rs1 : Reg) (src : Operand2), s.quiet →
    let a := s.r rs1
    let b := s.operand src
    WritesReg s (exec (.add rd rs1 src) s) rd (a + b) ∧
    WritesReg s (exec (.addx rd rs1 src) s) rd (a + b + (if s.psr.icc.c then 1 else 0)) ∧
    WritesReg s (exec (.sub rd rs1 src) s) rd (a - b) ∧
    WritesReg s (exec (.subx rd rs1 src) s) rd (a - b - (if s.psr.icc.c then 1 else 0)) ∧
    WritesReg s (exec (.and rd rs1 src) s) rd (a &&& b) ∧
    WritesReg s (exec (.andn rd rs1 src) s) rd (a &&& ~~~b) ∧
    WritesReg s (exec (.or rd rs1 src) s) rd (a ||| b) ∧
    WritesReg s (exec (.orn rd rs1 src) s) rd (a ||| ~~~b) ∧
    WritesReg s (exec (.xor rd rs1 src) s) rd (a ^^^ b) ∧
    WritesReg s (exec (.xnor rd rs1 src) s) rd (~~~(a ^^^ b))) ∧
  (∀ (s : State) (rd rs1 : Reg) (count : ShiftCount) (imm : BitVec 22), s.quiet →
    let a := s.r rs1
    let n : Nat := match count with
      | .reg rs2 => (s.r rs2).toNat % 32
      | .imm c => c.toNat
    WritesReg s (exec (.sll rd rs1 count) s) rd (BitVec.ofNat 32 (a.toNat * 2 ^ n)) ∧
    WritesReg s (exec (.srl rd rs1 count) s) rd (BitVec.ofNat 32 (a.toNat / 2 ^ n)) ∧
    WritesReg s (exec (.sra rd rs1 count) s) rd (BitVec.ofInt 32 (a.toInt / 2 ^ n)) ∧
    WritesReg s (exec (.sethi rd imm) s) rd (BitVec.ofNat 32 (imm.toNat * 1024)))

/-- With no delayed write in flight, ADDcc, ADDXcc, SUBcc and SUBXcc complete with r[rd] the 32-bit sum or difference
(the X forms with the carry), N its sign, Z whether it is zero, V whether the exact signed result differs from it, and
C whether the exact unsigned sum reaches two to the 32 or the unsigned difference is negative; nothing else changes.
(41_arith_logic.md R262; 41_arith_logic.md R263; 41_arith_logic.md R268; 41_arith_logic.md R270; 41_arith_logic.md
R277; 41_arith_logic.md R279) -/
def Obligations.FlaggedResults : Prop :=
  ∀ (s : State) (rd rs1 : Reg) (src : Operand2), s.quiet →
    let a := s.r rs1
    let b := s.operand src
    let c : Nat := if s.psr.icc.c then 1 else 0
    let cw : Word := if s.psr.icc.c then 1 else 0
    WritesRegIcc s (exec (.addcc rd rs1 src) s) rd (a + b)
      { n := (a + b).msb, z := decide (a + b = 0), v := decide (a.toInt + b.toInt ≠ (a + b).toInt),
        c := decide (2 ^ 32 ≤ a.toNat + b.toNat) } ∧
    WritesRegIcc s (exec (.addxcc rd rs1 src) s) rd (a + b + cw)
      { n := (a + b + cw).msb, z := decide (a + b + cw = 0), v := decide (a.toInt + b.toInt + c ≠ (a + b + cw).toInt),
        c := decide (2 ^ 32 ≤ a.toNat + b.toNat + c) } ∧
    WritesRegIcc s (exec (.subcc rd rs1 src) s) rd (a - b)
      { n := (a - b).msb, z := decide (a - b = 0), v := decide (a.toInt - b.toInt ≠ (a - b).toInt),
        c := decide (a.toNat < b.toNat) } ∧
    WritesRegIcc s (exec (.subxcc rd rs1 src) s) rd (a - b - cw)
      { n := (a - b - cw).msb, z := decide (a - b - cw = 0), v := decide (a.toInt - b.toInt - c ≠ (a - b - cw).toInt),
        c := decide (a.toNat < b.toNat + c) }

/-- With no delayed write in flight, ANDcc, ANDNcc, ORcc, ORNcc, XORcc and XNORcc complete with r[rd] the logical
function of the operands, N its sign, Z whether it is zero, V and C zero; nothing else changes. (41_arith_logic.md
R264) -/
def Obligations.LogicalFlags : Prop :=
  ∀ (s : State) (rd rs1 : Reg) (src : Operand2), s.quiet →
    let a := s.r rs1
    let b := s.operand src
    WritesRegIcc s (exec (.andcc rd rs1 src) s) rd (a &&& b)
      { n := (a &&& b).msb, z := decide (a &&& b = 0), v := false, c := false } ∧
    WritesRegIcc s (exec (.andncc rd rs1 src) s) rd (a &&& ~~~b)
      { n := (a &&& ~~~b).msb, z := decide (a &&& ~~~b = 0), v := false, c := false } ∧
    WritesRegIcc s (exec (.orcc rd rs1 src) s) rd (a ||| b)
      { n := (a ||| b).msb, z := decide (a ||| b = 0), v := false, c := false } ∧
    WritesRegIcc s (exec (.orncc rd rs1 src) s) rd (a ||| ~~~b)
      { n := (a ||| ~~~b).msb, z := decide (a ||| ~~~b = 0), v := false, c := false } ∧
    WritesRegIcc s (exec (.xorcc rd rs1 src) s) rd (a ^^^ b)
      { n := (a ^^^ b).msb, z := decide (a ^^^ b = 0), v := false, c := false } ∧
    WritesRegIcc s (exec (.xnorcc rd rs1 src) s) rd (~~~(a ^^^ b))
      { n := (~~~(a ^^^ b)).msb, z := decide (~~~(a ^^^ b) = 0), v := false, c := false }

/-- With no delayed write in flight, TADDcc and TSUBcc complete with V set exactly where either operand has a nonzero
low two bits or the signed result overflows, N, Z and C as for ADDcc and SUBcc. TADDccTV and TSUBccTV complete in the
same way with V = 0 where there is no such overflow; where there is one and ET = 1 they take tag_overflow, tt = 10,
writing neither r[rd] nor icc. (41_arith_logic.md R271; 41_arith_logic.md R272; 41_arith_logic.md R273;
41_arith_logic.md R274; 41_arith_logic.md R275) -/
def Obligations.TaggedArithmetic : Prop :=
  ∀ (s : State) (rd rs1 : Reg) (src : Operand2), s.quiet →
    let a := s.r rs1
    let b := s.operand src
    let va := (decide (a.toInt + b.toInt ≠ (a + b).toInt) || decide (a.toNat % 4 ≠ 0) || decide (b.toNat % 4 ≠ 0))
    let vs := (decide (a.toInt - b.toInt ≠ (a - b).toInt) || decide (a.toNat % 4 ≠ 0) || decide (b.toNat % 4 ≠ 0))
    let ca := decide (2 ^ 32 ≤ a.toNat + b.toNat)
    let cs := decide (a.toNat < b.toNat)
    WritesRegIcc s (exec (.taddcc rd rs1 src) s) rd (a + b) { n := (a + b).msb, z := decide (a + b = 0), v := va, c
        := ca } ∧
    WritesRegIcc s (exec (.tsubcc rd rs1 src) s) rd (a - b) { n := (a - b).msb, z := decide (a - b = 0), v := vs, c
        := cs } ∧
    (va = false → WritesRegIcc s (exec (.taddcctv rd rs1 src) s) rd (a + b)
      { n := (a + b).msb, z := decide (a + b = 0), v := false, c := ca }) ∧
    (vs = false → WritesRegIcc s (exec (.tsubcctv rd rs1 src) s) rd (a - b)
      { n := (a - b).msb, z := decide (a - b = 0), v := false, c := cs }) ∧
    (va = true → s.psr.et = true → Traps s (exec (.taddcctv rd rs1 src) s) 10) ∧
    (vs = true → s.psr.et = true → Traps s (exec (.tsubcctv rd rs1 src) s) 10)

/-- With no delayed write in flight, MULScc completes: with x the value of r[rs1] shifted right by one with N xor V as
its sign, r[rd] holds x plus the second operand where Y is odd and x where it is even; Y is shifted right by one with
bit 0 of r[rs1] as its sign; N, Z, V and C are those of the addition; nothing else changes. (41_arith_logic.md R280;
41_arith_logic.md R262) -/
def Obligations.MultiplyStep : Prop :=
  ∀ (s : State) (rd rs1 : Reg) (src : Operand2), s.quiet →
    let a := s.r rs1
    let x : Word := BitVec.ofNat 32 (a.toNat / 2 + if s.psr.icc.n ≠ s.psr.icc.v then 2 ^ 31 else 0)
    let b : Word := if s.y.toNat % 2 = 1 then s.operand src else 0
    ∃ t, exec (.mulscc rd rs1 src) s = .next t ∧ Advanced s t ∧ Holds t s.psr.cwp rd (x + b) ∧
      t.y.toNat = s.y.toNat / 2 + (if a.toNat % 2 = 1 then 2 ^ 31 else 0) ∧
      t.psr.icc = { n := (x + b).msb, z := decide (x + b = 0), v := decide (x.toInt + b.toInt ≠ (x + b).toInt),
                    c := decide (2 ^ 32 ≤ x.toNat + b.toNat) } ∧
      RegsKeptBut s t s.psr.cwp rd ∧ MemKept s t ∧
      t = { s with pc := t.pc, npc := t.npc, globals := t.globals, windows := t.windows, prev := s.current, stale := s.unflushed,
                   psr := { s.psr with icc := t.psr.icc }, y := t.y }

/-- With no delayed write in flight, where the WIM bit of the window below CWP (modulo NWINDOWS) is clear, SAVE
completes: CWP names that window and r[rd] of it holds the sum of r[rs1] and the second operand read in the old
window; every other register of every window, the rest of the PSR, every other piece of state and memory are
unchanged. Where the bit is set and ET = 1 it takes window_overflow, tt = 5, and changes nothing itself. With no
delayed write in flight, where the WIM bit of the window above CWP (modulo NWINDOWS) is clear, RESTORE completes: CWP
names that window and r[rd] of it holds the sum of r[rs1] and the second operand read in the old window; every other
register of every window, the rest of the PSR, every other piece of state and memory are unchanged. Where the bit is
set and ET = 1 it takes window_underflow, tt = 6, and changes nothing itself. (41_arith_logic.md R303;
41_arith_logic.md R304; 10_state.md R56; 41_arith_logic.md R305) -/
def Obligations.WindowRotation : Prop :=
  (∀ (s : State) (rd rs1 : Reg) (src : Operand2), s.quiet →
    let w : BitVec 5 := BitVec.ofNat 5 ((s.psr.cwp.toNat + nwindows s.cfg - 1) % nwindows s.cfg)
    (s.wim.getLsbD w.toNat = false →
      ∃ t, exec (.save rd rs1 src) s = .next t ∧ Advanced s t ∧ t.psr = { s.psr with cwp := w } ∧
        Holds t w rd (s.address rs1 src) ∧ RegsKeptBut s t w rd ∧ MemKept s t ∧
        t = { s with pc := t.pc, npc := t.npc, globals := t.globals, windows := t.windows, prev := s.current, stale := s.unflushed,
                     psr := t.psr }) ∧
    (s.wim.getLsbD w.toNat = true → s.psr.et = true → Traps s (exec (.save rd rs1 src) s) 5)) ∧
  (∀ (s : State) (rd rs1 : Reg) (src : Operand2), s.quiet →
    let w : BitVec 5 := BitVec.ofNat 5 ((s.psr.cwp.toNat + 1) % nwindows s.cfg)
    (s.wim.getLsbD w.toNat = false →
      ∃ t, exec (.restore rd rs1 src) s = .next t ∧ Advanced s t ∧ t.psr = { s.psr with cwp := w } ∧
        Holds t w rd (s.address rs1 src) ∧ RegsKeptBut s t w rd ∧ MemKept s t ∧
        t = { s with pc := t.pc, npc := t.npc, globals := t.globals, windows := t.windows, prev := s.current, stale := s.unflushed,
                     psr := t.psr }) ∧
    (s.wim.getLsbD w.toNat = true → s.psr.et = true → Traps s (exec (.restore rd rs1 src) s) 6))

/-- With no delayed write in flight, where the memory system answers the access at the aligned effective address in
the mode's data space, LDSB, LDUB, LDSH, LDUH and LD complete: r[rd] holds the byte, halfword or word at the address,
most significant byte first, sign- or zero-extended; no byte of memory and nothing else changes. In supervisor mode
with no delayed write in flight, where the memory system answers the access at the aligned address r[rs1] + r[rs2] in
the address space of the asi field, LDSBA, LDUBA, LDSHA, LDUHA and LDA complete as the normal loads do; nothing else
changes. (40_load_store.md R201; 40_load_store.md R205; 40_load_store.md R206; 40_load_store.md R207; 40_load_store.md
R208; 40_load_store.md R209; 40_load_store.md R213 to R217; 20_memory.md R104; 20_memory.md R110) -/
def Obligations.IntegerLoads : Prop :=
  (∀ (s : State) (rd rs1 : Reg) (src : Operand2) (k : Nat), s.quiet →
    let a := s.address rs1 src
    s.locate .read s.space a = some k →
    WritesReg s (exec (.ldsb rd rs1 src) s) rd ((Memory.get s.mem (k + a.toNat % 4)).signExtend 32) ∧
    WritesReg s (exec (.ldub rd rs1 src) s) rd ((Memory.get s.mem (k + a.toNat % 4)).setWidth 32) ∧
    (a.toNat % 2 = 0 → WritesReg s (exec (.ldsh rd rs1 src) s) rd ((Memory.get s.mem (k + a.toNat % 4) ++ Memory.get
        s.mem (k + a.toNat % 4 + 1)).signExtend 32)) ∧
    (a.toNat % 2 = 0 → WritesReg s (exec (.lduh rd rs1 src) s) rd ((Memory.get s.mem (k + a.toNat % 4) ++ Memory.get
        s.mem (k + a.toNat % 4 + 1)).setWidth 32)) ∧
    (a.toNat % 4 = 0 → WritesReg s (exec (.ld rd rs1 src) s) rd (Memory.get s.mem k ++ Memory.get s.mem (k + 1) ++
        Memory.get s.mem (k + 2) ++ Memory.get s.mem (k + 3)))) ∧
  (∀ (s : State) (rd rs1 rs2 : Reg) (asi : Byte) (k : Nat), s.quiet → s.psr.s = true →
    let a := s.addressA rs1 rs2
    s.locate .read asi a = some k →
    WritesReg s (exec (.ldsba rd rs1 rs2 asi) s) rd ((Memory.get s.mem (k + a.toNat % 4)).signExtend 32) ∧
    WritesReg s (exec (.lduba rd rs1 rs2 asi) s) rd ((Memory.get s.mem (k + a.toNat % 4)).setWidth 32) ∧
    (a.toNat % 2 = 0 → WritesReg s (exec (.ldsha rd rs1 rs2 asi) s) rd ((Memory.get s.mem (k + a.toNat % 4) ++
        Memory.get s.mem (k + a.toNat % 4 + 1)).signExtend 32)) ∧
    (a.toNat % 2 = 0 → WritesReg s (exec (.lduha rd rs1 rs2 asi) s) rd ((Memory.get s.mem (k + a.toNat % 4) ++
        Memory.get s.mem (k + a.toNat % 4 + 1)).setWidth 32)) ∧
    (a.toNat % 4 = 0 → WritesReg s (exec (.lda rd rs1 rs2 asi) s) rd (Memory.get s.mem k ++ Memory.get s.mem (k + 1)
        ++ Memory.get s.mem (k + 2) ++ Memory.get s.mem (k + 3))))

/-- With no delayed write in flight, at an address divisible by 8 where the memory system answers both accesses, LDD
completes: the even register of the pair holds the word at the address (r[0] keeps 0) and the odd register the word at
the address + 4, the least significant bit of rd ignored; nothing else changes. LDDA does the same in supervisor mode
in the space it names. (40_load_store.md R210; 40_load_store.md R212; 40_load_store.md R218) -/
def Obligations.DoublewordLoads : Prop :=
  ∀ (s : State) (rd rs1 rs2 : Reg) (src : Operand2) (asi : Byte) (k k' : Nat), s.quiet →
    (let a := s.address rs1 src
     s.locate .read s.space a = some k → s.locate .read s.space (a + 4) = some k' → a.toNat % 8 = 0 →
      WritesPair s (exec (.ldd rd rs1 src) s) (rd &&& 0b11110#5) (rd ||| 0b00001#5)
        (Memory.get s.mem k ++ Memory.get s.mem (k + 1) ++ Memory.get s.mem (k + 2) ++ Memory.get s.mem (k + 3))
        (Memory.get s.mem k' ++ Memory.get s.mem (k' + 1) ++ Memory.get s.mem (k' + 2) ++ Memory.get s.mem (k' + 3)))
            ∧
    (let a := s.addressA rs1 rs2
     s.psr.s = true → s.locate .read asi a = some k → s.locate .read asi (a + 4) = some k' → a.toNat % 8 = 0 →
      WritesPair s (exec (.ldda rd rs1 rs2 asi) s) (rd &&& 0b11110#5) (rd ||| 0b00001#5)
        (Memory.get s.mem k ++ Memory.get s.mem (k + 1) ++ Memory.get s.mem (k + 2) ++ Memory.get s.mem (k + 3))
        (Memory.get s.mem k' ++ Memory.get s.mem (k' + 1) ++ Memory.get s.mem (k' + 2) ++ Memory.get s.mem (k' + 3)))

/-- With canonical memory and no delayed write in flight, where the memory system answers the access at the aligned
effective address in the mode's data space, STB, STH, ST and STD complete: the one, two, four or eight bytes from that
address on are those of r[rd] (for STD of the even and then the odd register), most significant first; every other
byte of memory, every register and everything else are unchanged. In supervisor mode with canonical memory and no
delayed write in flight, STBA, STHA, STA and STDA complete as the normal stores do, at the address r[rs1] + r[rs2] in
the address space of the asi field; every other byte of memory, every register and everything else are unchanged.
(40_load_store.md R201; 40_load_store.md R229; 40_load_store.md R230; 40_load_store.md R231; 40_load_store.md R232;
40_load_store.md R233 to R236; 20_memory.md R104; 20_memory.md R111) -/
def Obligations.IntegerStores : Prop :=
  (∀ (s : State) (rd rs1 : Reg) (src : Operand2) (k : Nat), Memory.wf s.mem = true → s.quiet →
    let a := s.address rs1 src
    s.locate .write s.space a = some k →
    StoresBytes s (exec (.stb rd rs1 src) s) (k + a.toNat % 4) [(s.r rd).extractLsb' 0 8] ∧
    (a.toNat % 2 = 0 → StoresBytes s (exec (.sth rd rs1 src) s) (k + a.toNat % 4) [(s.r rd).extractLsb' 8 8, (s.r
        rd).extractLsb' 0 8]) ∧
    (a.toNat % 4 = 0 → StoresBytes s (exec (.st rd rs1 src) s) k
      [(s.r rd).extractLsb' 24 8, (s.r rd).extractLsb' 16 8, (s.r rd).extractLsb' 8 8, (s.r rd).extractLsb' 0 8]) ∧
    (a.toNat % 8 = 0 → s.locate .write s.space (a + 4) ≠ none → StoresBytes s (exec (.std rd rs1 src) s) k
      [(s.r (rd &&& 0b11110#5)).extractLsb' 24 8, (s.r (rd &&& 0b11110#5)).extractLsb' 16 8, (s.r (rd &&&
          0b11110#5)).extractLsb' 8 8, (s.r (rd &&& 0b11110#5)).extractLsb' 0 8,
       (s.r (rd ||| 0b00001#5)).extractLsb' 24 8, (s.r (rd ||| 0b00001#5)).extractLsb' 16 8, (s.r (rd |||
           0b00001#5)).extractLsb' 8 8, (s.r (rd ||| 0b00001#5)).extractLsb' 0 8])) ∧
  (∀ (s : State) (rd rs1 rs2 : Reg) (asi : Byte) (k : Nat), Memory.wf s.mem = true → s.quiet → s.psr.s = true →
    let a := s.addressA rs1 rs2
    s.locate .write asi a = some k →
    StoresBytes s (exec (.stba rd rs1 rs2 asi) s) (k + a.toNat % 4) [(s.r rd).extractLsb' 0 8] ∧
    (a.toNat % 2 = 0 → StoresBytes s (exec (.stha rd rs1 rs2 asi) s) (k + a.toNat % 4) [(s.r rd).extractLsb' 8 8,
        (s.r rd).extractLsb' 0 8]) ∧
    (a.toNat % 4 = 0 → StoresBytes s (exec (.sta rd rs1 rs2 asi) s) k
      [(s.r rd).extractLsb' 24 8, (s.r rd).extractLsb' 16 8, (s.r rd).extractLsb' 8 8, (s.r rd).extractLsb' 0 8]) ∧
    (a.toNat % 8 = 0 → s.locate .write asi (a + 4) ≠ none → StoresBytes s (exec (.stda rd rs1 rs2 asi) s) k
      [(s.r (rd &&& 0b11110#5)).extractLsb' 24 8, (s.r (rd &&& 0b11110#5)).extractLsb' 16 8, (s.r (rd &&&
          0b11110#5)).extractLsb' 8 8, (s.r (rd &&& 0b11110#5)).extractLsb' 0 8,
       (s.r (rd ||| 0b00001#5)).extractLsb' 24 8, (s.r (rd ||| 0b00001#5)).extractLsb' 16 8, (s.r (rd |||
           0b00001#5)).extractLsb' 8 8, (s.r (rd ||| 0b00001#5)).extractLsb' 0 8]))

/-- With canonical memory and no delayed write in flight, where the memory system answers both accesses: LDSTUB
completes with r[rd] the byte at the address, zero-extended, and that byte of memory all ones; SWAP, at an address
divisible by 4, completes with r[rd] the word of memory and the word of memory r[rd] as it was; every other byte,
register and piece of state is unchanged. LDSTUBA and SWAPA do the same in supervisor mode in the space they name.
(40_load_store.md R250; 40_load_store.md R251; 40_load_store.md R252; 40_load_store.md R253) -/
def Obligations.AtomicExchanges : Prop :=
  ∀ (s : State) (rd rs1 rs2 : Reg) (src : Operand2) (asi : Byte) (k : Nat), Memory.wf s.mem = true → s.quiet →
    (let a := s.address rs1 src
     s.locate .read s.space a = some k → s.locate .write s.space a = some k →
    Exchanges s (exec (.ldstub rd rs1 src) s) rd ((Memory.get s.mem (k + a.toNat % 4)).setWidth 32) (k + a.toNat % 4)
      [0xFF#8] ∧
    (a.toNat % 4 = 0 → Exchanges s (exec (.swap rd rs1 src) s) rd
      (Memory.get s.mem k ++ Memory.get s.mem (k + 1) ++ Memory.get s.mem (k + 2) ++ Memory.get s.mem (k + 3))
      k [(s.r rd).extractLsb' 24 8, (s.r rd).extractLsb' 16 8, (s.r rd).extractLsb' 8 8, (s.r rd).extractLsb' 0 8])) ∧
    (let a := s.addressA rs1 rs2
     s.psr.s = true → s.locate .read asi a = some k → s.locate .write asi a = some k →
    Exchanges s (exec (.ldstuba rd rs1 rs2 asi) s) rd ((Memory.get s.mem (k + a.toNat % 4)).setWidth 32) (k + a.toNat
        % 4)
      [0xFF#8] ∧
    (a.toNat % 4 = 0 → Exchanges s (exec (.swapa rd rs1 rs2 asi) s) rd
      (Memory.get s.mem k ++ Memory.get s.mem (k + 1) ++ Memory.get s.mem (k + 2) ++ Memory.get s.mem (k + 3))
      k [(s.r rd).extractLsb' 24 8, (s.r rd).extractLsb' 16 8, (s.r rd).extractLsb' 8 8, (s.r rd).extractLsb' 0 8]))

/-- With ET = 1 and no delayed write in flight, LDSH, LDUH and STH at an odd address, LD, ST and SWAP at an address
not divisible by 4, LDD and STD at one not divisible by 8, and in supervisor mode their alternate-space forms, take
mem_address_not_aligned, tt = 7: no register but those of the trap entry and no byte of memory changes. So do, with
the FPU ready, LDF and STF (4), LDDF and STDF (8), with the FPU enabled and no exception outstanding, whatever is
queued, LDFSR, STFSR (4) and in supervisor mode STDFQ (8), and with the coprocessor ready LDC, LDCSR, STC, STCSR (4),
LDDC, STDC and in supervisor mode STDCQ (8). That an LDFSR that traps so in exception mode leaves ftt and the mode
(log entry 23), and that the coprocessor is as it was (log entry 33), is read from R202 (DEDUCED: R220 and R225 leave
them open). (20_memory.md R106; 40_load_store.md R202; 60_exceptions.md R502; 40_load_store.md R221 to R223;
40_load_store.md R225 to R227; 40_load_store.md R240 to R243; 40_load_store.md R245 to R248) -/
def Obligations.MisalignedAccessTraps : Prop :=
  (∀ (s : State) (rd rs1 rs2 : Reg) (src : Operand2) (asi : Byte), s.quiet → s.psr.et = true →
    (let a := s.address rs1 src
     (a.toNat % 2 ≠ 0 → Traps s (exec (.ldsh rd rs1 src) s) 7) ∧
     (a.toNat % 2 ≠ 0 → Traps s (exec (.lduh rd rs1 src) s) 7) ∧
     (a.toNat % 2 ≠ 0 → Traps s (exec (.sth rd rs1 src) s) 7) ∧
     (a.toNat % 4 ≠ 0 → Traps s (exec (.ld rd rs1 src) s) 7) ∧
     (a.toNat % 4 ≠ 0 → Traps s (exec (.st rd rs1 src) s) 7) ∧
     (a.toNat % 4 ≠ 0 → Traps s (exec (.swap rd rs1 src) s) 7) ∧
     (a.toNat % 8 ≠ 0 → Traps s (exec (.ldd rd rs1 src) s) 7) ∧
     (a.toNat % 8 ≠ 0 → Traps s (exec (.std rd rs1 src) s) 7)) ∧
    (let a := s.addressA rs1 rs2
     s.psr.s = true →
     (a.toNat % 2 ≠ 0 → Traps s (exec (.ldsha rd rs1 rs2 asi) s) 7) ∧
     (a.toNat % 2 ≠ 0 → Traps s (exec (.lduha rd rs1 rs2 asi) s) 7) ∧
     (a.toNat % 2 ≠ 0 → Traps s (exec (.stha rd rs1 rs2 asi) s) 7) ∧
     (a.toNat % 4 ≠ 0 → Traps s (exec (.lda rd rs1 rs2 asi) s) 7) ∧
     (a.toNat % 4 ≠ 0 → Traps s (exec (.sta rd rs1 rs2 asi) s) 7) ∧
     (a.toNat % 4 ≠ 0 → Traps s (exec (.swapa rd rs1 rs2 asi) s) 7) ∧
     (a.toNat % 8 ≠ 0 → Traps s (exec (.ldda rd rs1 rs2 asi) s) 7) ∧
     (a.toNat % 8 ≠ 0 → Traps s (exec (.stda rd rs1 rs2 asi) s) 7))) ∧
  (∀ (s : State) (rd rs1 : Reg) (src : Operand2), s.quiet → s.psr.et = true →
    let a := s.address rs1 src
    (s.fpReady →
      (a.toNat % 4 ≠ 0 → ∀ i ∈ [Instr.ldf rd rs1 src, .stf rd rs1 src], Traps s (exec i s) 7) ∧
      (a.toNat % 8 ≠ 0 → ∀ i ∈ [Instr.lddf rd rs1 src, .stdf rd rs1 src], Traps s (exec i s) 7)) ∧
    (s.psr.ef = true → s.cfg.fpuPresent = true → s.fpu.mode ≠ .exceptionPending →
      (a.toNat % 4 ≠ 0 → ∀ i ∈ [Instr.ldfsr rs1 src, .stfsr rs1 src], Traps s (exec i s) 7) ∧
      (a.toNat % 8 ≠ 0 → s.psr.s = true → Traps s (exec (.stdfq rs1 src) s) 7)) ∧
    (s.cpReady →
      (a.toNat % 4 ≠ 0 →
        ∀ i ∈ [Instr.ldc rd rs1 src, .ldcsr rs1 src, .stc rd rs1 src, .stcsr rs1 src], Traps s (exec i s) 7) ∧
      (a.toNat % 8 ≠ 0 → ∀ i ∈ [Instr.lddc rd rs1 src, .stdc rd rs1 src], Traps s (exec i s) 7) ∧
      (a.toNat % 8 ≠ 0 → s.psr.s = true → Traps s (exec (.stdcq rs1 src) s) 7)))

/-- With ET = 1 and no delayed write in flight, an aligned integer load, store, LDSTUB or SWAP whose first access the
memory system refuses takes data_access_exception, tt = 9, with no other effect than the trap's entry; the
alternate-space forms do the same in supervisor mode. Where the first access is answered and the second refused: LDD
and LDDA trap with the even register holding the word loaded, STD and STDA with all four bytes of the first word
stored; where the read of LDSTUB, SWAP or their alternate forms is answered and its write refused, the trap comes with
r[rd] loaded and memory as it was. With the FPU ready: LDF and LDDF leave each destination as it was or the
implementation's constant (where the second access of LDDF is refused, the even one may also hold the word loaded: log
entry 22, DEDUCED), LDFSR, STF, STDF, STFSR and STDFQ leave everything; STDF refused at its second word leaves the
first stored, STDFQ in exception mode leaves the address stored and its entry removed. With the coprocessor ready: a
refused LDC, LDCSR or LDDC leaves the coprocessor in a state of its own; LDDC refused at its second word holds the
first in the even register and keeps the odd one (no rule says this: R225 and R226 leave the state of the coprocessor
after such a trap to its implementation, and the clause is the model's choice, from part 1.2 of the spec's file 93,
log entry 33, DEDUCED); STC, STDC, STCSR and STDCQ as the integer stores, and the coprocessor is as it was (of STDCQ
the model's choice, log entry 33, DESIGN CHOICE). Where a device is behind the address, LD, LDUB and ST (LDA, LDUBA
and STA) complete with what the environment answers, the environment in the state it answers, or take
data_access_exception where it answers with an exception (D3, log entry 8). (40_load_store.md R202; 40_load_store.md
R205 to R218; 40_load_store.md R221 to R223; 40_load_store.md R225 to R227; 40_load_store.md R229 to R236;
40_load_store.md R240 to R243; 40_load_store.md R245 to R248; 40_load_store.md R250 to R253; 60_exceptions.md R502;
20_memory.md R110; 20_memory.md R111; 20_memory.md R114) -/
def Obligations.MemoryExceptionTraps : Prop :=
  (∀ (s : State) (rd rs1 rs2 : Reg) (src : Operand2) (asi : Byte), s.quiet → s.psr.et = true →
    let P (acc : Access) (n : Nat) (asi : Byte) (a : Word) (i : Instr) : Prop :=
      a.toNat % n = 0 → s.refusedAt acc asi a → Traps s (exec i s) 9
    s.bothForms rs1 rs2 src asi (P .read 1) (.ldsb rd rs1 src) (.ldsba rd rs1 rs2 asi) ∧
    s.bothForms rs1 rs2 src asi (P .read 1) (.ldub rd rs1 src) (.lduba rd rs1 rs2 asi) ∧
    s.bothForms rs1 rs2 src asi (P .read 2) (.ldsh rd rs1 src) (.ldsha rd rs1 rs2 asi) ∧
    s.bothForms rs1 rs2 src asi (P .read 2) (.lduh rd rs1 src) (.lduha rd rs1 rs2 asi) ∧
    s.bothForms rs1 rs2 src asi (P .read 4) (.ld rd rs1 src) (.lda rd rs1 rs2 asi) ∧
    s.bothForms rs1 rs2 src asi (P .read 8) (.ldd rd rs1 src) (.ldda rd rs1 rs2 asi) ∧
    s.bothForms rs1 rs2 src asi (P .read 1) (.ldstub rd rs1 src) (.ldstuba rd rs1 rs2 asi) ∧
    s.bothForms rs1 rs2 src asi (P .read 4) (.swap rd rs1 src) (.swapa rd rs1 rs2 asi) ∧
    s.bothForms rs1 rs2 src asi (P .write 1) (.stb rd rs1 src) (.stba rd rs1 rs2 asi) ∧
    s.bothForms rs1 rs2 src asi (P .write 2) (.sth rd rs1 src) (.stha rd rs1 rs2 asi) ∧
    s.bothForms rs1 rs2 src asi (P .write 4) (.st rd rs1 src) (.sta rd rs1 rs2 asi) ∧
    s.bothForms rs1 rs2 src asi (P .write 8) (.std rd rs1 src) (.stda rd rs1 rs2 asi)) ∧
  (∀ (s : State) (rd rs1 rs2 : Reg) (src : Operand2) (asi : Byte) (k : Nat), Memory.wf s.mem = true → s.quiet →
    s.psr.et = true →
    let even : Reg := rd &&& 0b11110#5
    let LoadsFirst (asi : Byte) (a : Word) (i : Instr) : Prop :=
      a.toNat % 8 = 0 → s.locate .read asi a = some k → s.refusedAt .read asi (a + 4) →
      ∃ m, Holds m s.psr.cwp even (Memory.word s.mem k) ∧ RegsKeptBut s m s.psr.cwp even ∧
        m = { s with globals := m.globals, windows := m.windows } ∧ Traps m (exec i s) 9
    let StoresFirst (asi : Byte) (a : Word) (i : Instr) : Prop :=
      a.toNat % 8 = 0 → s.locate .write asi a = some k → s.refusedAt .write asi (a + 4) →
      ∃ m, WordStored s m k (s.r even) ∧ m = { s with mem := m.mem, stale := m.stale } ∧ Traps m (exec i s) 9
    let LoadsOnly (n : Nat) (v : Word → Word) (asi : Byte) (a : Word) (i : Instr) : Prop :=
      a.toNat % n = 0 → s.locate .read asi a = some k → s.refusedAt .write asi a →
      ∃ m, Holds m s.psr.cwp rd (v a) ∧ RegsKeptBut s m s.psr.cwp rd ∧
        m = { s with globals := m.globals, windows := m.windows } ∧ Traps m (exec i s) 9
    s.bothForms rs1 rs2 src asi LoadsFirst (.ldd rd rs1 src) (.ldda rd rs1 rs2 asi) ∧
    s.bothForms rs1 rs2 src asi StoresFirst (.std rd rs1 src) (.stda rd rs1 rs2 asi) ∧
    s.bothForms rs1 rs2 src asi (LoadsOnly 1 fun a => (Memory.get s.mem (k + a.toNat % 4)).setWidth 32)
      (.ldstub rd rs1 src) (.ldstuba rd rs1 rs2 asi) ∧
    s.bothForms rs1 rs2 src asi (LoadsOnly 4 fun _ => Memory.word s.mem k) (.swap rd rs1 src) (.swapa rd rs1 rs2 asi)) ∧
  (∀ (s : State) (rd rs1 : Reg) (src : Operand2), s.psr.et = true → s.fpReady →
    let a := s.address rs1 src
    let high : Reg := rd &&& 0b11110#5
    let low : Reg := rd ||| 0b00001#5
    let KeptOrConstant (m : State) (n : Reg) : Prop := m.freg n = s.freg n ∨ m.freg n = Config.loadTrapConstant
    (s.refusedAt .read s.space a →
      (a.toNat % 4 = 0 → ∃ m, KeptOrConstant m rd ∧ FregsKeptBut s m [rd] ∧
        m = { s with fpu := { s.fpu with f := m.fpu.f } } ∧ Traps m (exec (.ldf rd rs1 src) s) 9) ∧
      (a.toNat % 8 = 0 → ∃ m, KeptOrConstant m high ∧ KeptOrConstant m low ∧ FregsKeptBut s m [high, low] ∧
        m = { s with fpu := { s.fpu with f := m.fpu.f } } ∧ Traps m (exec (.lddf rd rs1 src) s) 9) ∧
      (a.toNat % 4 = 0 → Traps s (exec (.ldfsr rs1 src) s) 9)) ∧
    (∀ k, s.locate .read s.space a = some k → s.refusedAt .read s.space (a + 4) → a.toNat % 8 = 0 →
      ∃ m, (KeptOrConstant m high ∨ m.freg high = Memory.word s.mem k) ∧ KeptOrConstant m low ∧
        FregsKeptBut s m [high, low] ∧ m = { s with fpu := { s.fpu with f := m.fpu.f } } ∧
        Traps m (exec (.lddf rd rs1 src) s) 9) ∧
    (s.refusedAt .write s.space a →
      (a.toNat % 4 = 0 → Traps s (exec (.stf rd rs1 src) s) 9) ∧ (a.toNat % 8 = 0 → Traps s (exec (.stdf rd rs1 src) s) 9) ∧
      (a.toNat % 4 = 0 → Traps s (exec (.stfsr rs1 src) s) 9) ∧
      (a.toNat % 8 = 0 → s.psr.s = true → Traps s (exec (.stdfq rs1 src) s) 9)) ∧
    (∀ k, Memory.wf s.mem = true → s.locate .write s.space a = some k → s.refusedAt .write s.space (a + 4) →
      a.toNat % 8 = 0 →
      ∃ m, WordStored s m k (s.freg high) ∧ m = { s with mem := m.mem, stale := m.stale } ∧
        Traps m (exec (.stdf rd rs1 src) s) 9)) ∧
  (∀ (s : State) (rs1 : Reg) (src : Operand2) (k : Nat) (e : FqEntry) (rest : List FqEntry), Memory.wf s.mem = true →
    s.quiet → s.psr.et = true → s.psr.s = true → s.psr.ef = true → s.cfg.fpuPresent = true → s.fpu.mode = .exception →
    s.fpu.queue = e :: rest →
    let a := s.address rs1 src
    a.toNat % 8 = 0 → s.locate .write s.space a = some k → s.refusedAt .write s.space (a + 4) →
    ∃ m, WordStored s m k e.addr ∧
      m = { s with mem := m.mem, stale := m.stale,
                   fpu := { s.fpu with queue := rest, mode := if rest = [] then .execute else .exception,
                                       fsr := { s.fpu.fsr with qne := decide (rest ≠ []) } } } ∧
      Traps m (exec (.stdfq rs1 src) s) 9) ∧
  (∀ (s : State) (rd rs1 : Reg) (src : Operand2), s.psr.et = true → s.cpReady →
    let a := s.address rs1 src
    let even : Reg := rd &&& 0b11110#5
    let odd : Reg := rd ||| 0b00001#5
    let trapped := { s with cp := Config.cpLoadTrapped s.cp }
    (s.refusedAt .read s.space a →
      (a.toNat % 4 = 0 → Traps trapped (exec (.ldc rd rs1 src) s) 9) ∧
      (a.toNat % 4 = 0 → Traps trapped (exec (.ldcsr rs1 src) s) 9) ∧
      (a.toNat % 8 = 0 → Traps trapped (exec (.lddc rd rs1 src) s) 9)) ∧
    (∀ k, s.locate .read s.space a = some k → s.refusedAt .read s.space (a + 4) → a.toNat % 8 = 0 →
      ∃ m, m.creg even = Memory.word s.mem k ∧ m.creg odd = s.creg odd ∧
        (∀ n, n ≠ even → n ≠ odd → m.creg n = trapped.creg n) ∧ m = { trapped with cp := { trapped.cp with c := m.cp.c } } ∧
        Traps m (exec (.lddc rd rs1 src) s) 9) ∧
    (s.refusedAt .write s.space a →
      (a.toNat % 4 = 0 → Traps s (exec (.stc rd rs1 src) s) 9) ∧ (a.toNat % 8 = 0 → Traps s (exec (.stdc rd rs1 src) s) 9) ∧
      (a.toNat % 4 = 0 → Traps s (exec (.stcsr rs1 src) s) 9) ∧
      (a.toNat % 8 = 0 → s.psr.s = true → Traps s (exec (.stdcq rs1 src) s) 9)) ∧
    (∀ k, Memory.wf s.mem = true → s.locate .write s.space a = some k → s.refusedAt .write s.space (a + 4) →
      a.toNat % 8 = 0 →
      (∃ m, WordStored s m k (s.creg even) ∧ m = { s with mem := m.mem, stale := m.stale } ∧
        Traps m (exec (.stdc rd rs1 src) s) 9) ∧
      (s.psr.s = true → ∃ m, WordStored s m k s.cp.cqAddr ∧ m = { s with mem := m.mem, stale := m.stale } ∧
        Traps m (exec (.stdcq rs1 src) s) 9))) ∧
  (∀ (s : State) (rd rs1 rs2 : Reg) (src : Operand2) (asi : Byte), s.quiet → s.psr.et = true →
    let Reads (v : Word → Word → Word) (mask : Word → BitVec 4) (asi : Byte) (a : Word) (i : Instr) : Prop :=
      let e := Config.envRead s.tick s.env .read asi (a &&& 0xFFFFFFFC#32) (mask a)
      s.onDevice asi a = true →
      match e.data with
      | some w => WritesReg (s.answered e) (exec i s) rd (v a w)
      | none => Traps (s.answered e) (exec i s) 9
    let Writes (asi : Byte) (a : Word) (i : Instr) : Prop :=
      let e := Config.envWrite s.tick s.env asi (a &&& 0xFFFFFFFC#32) 0b1111#4 (s.r rd)
      s.onDevice asi a = true →
      match e.data with
      | some _ => Passes (s.answered e) (exec i s)
      | none => Traps s (exec i s) 9
    s.bothForms rs1 rs2 src asi (fun asi a i => a.toNat % 4 = 0 → Reads (fun _ w => w) (fun _ => 0b1111#4) asi a i)
      (.ld rd rs1 src) (.lda rd rs1 rs2 asi) ∧
    s.bothForms rs1 rs2 src asi
      (Reads (fun a w => (byteOfWord w (a.toNat % 4)).setWidth 32) (fun a => 0b1000#4 >>> (a.toNat % 4)))
      (.ldub rd rs1 src) (.lduba rd rs1 rs2 asi) ∧
    s.bothForms rs1 rs2 src asi (fun asi a i => a.toNat % 4 = 0 → Writes asi a i) (.st rd rs1 src) (.sta rd rs1 rs2 asi))

/-- In user mode with ET = 1 and no delayed write in flight, the twelve alternate-space instructions, RDPSR, RDWIM,
RDTBR, WRWIM, WRTBR, STDFQ and STDCQ take privileged_instruction, tt = 3, whatever their addresses and the units'
enables; so does WRPSR of a value whose CWP field names a window. RETT is not among them: with ET = 1 it takes
illegal_instruction (R374). No other register, no status register and no byte of memory changes. (60_exceptions.md
R550; 40_load_store.md R202; 60_exceptions.md R502) -/
def Obligations.PrivilegedInUserModeTraps : Prop :=
  ∀ (s : State) (rd rs1 rs2 : Reg) (src : Operand2) (asi : Byte), s.quiet → s.psr.et = true → s.psr.s = false →
    Traps s (exec (.ldsba rd rs1 rs2 asi) s) 3 ∧
    Traps s (exec (.ldsha rd rs1 rs2 asi) s) 3 ∧
    Traps s (exec (.lduba rd rs1 rs2 asi) s) 3 ∧
    Traps s (exec (.lduha rd rs1 rs2 asi) s) 3 ∧
    Traps s (exec (.lda rd rs1 rs2 asi) s) 3 ∧
    Traps s (exec (.ldda rd rs1 rs2 asi) s) 3 ∧
    Traps s (exec (.stba rd rs1 rs2 asi) s) 3 ∧
    Traps s (exec (.stha rd rs1 rs2 asi) s) 3 ∧
    Traps s (exec (.sta rd rs1 rs2 asi) s) 3 ∧
    Traps s (exec (.stda rd rs1 rs2 asi) s) 3 ∧
    Traps s (exec (.ldstuba rd rs1 rs2 asi) s) 3 ∧
    Traps s (exec (.swapa rd rs1 rs2 asi) s) 3 ∧
    Traps s (exec (.rdpsr rd) s) 3 ∧
    Traps s (exec (.rdwim rd) s) 3 ∧
    Traps s (exec (.rdtbr rd) s) 3 ∧
    Traps s (exec (.wrwim rs1 src) s) 3 ∧
    Traps s (exec (.wrtbr rs1 src) s) 3 ∧
    Traps s (exec (.stdfq rs1 src) s) 3 ∧
    Traps s (exec (.stdcq rs1 src) s) 3 ∧
    (((s.r rs1 ^^^ s.operand src).extractLsb' 0 5).toNat < nwindows s.cfg → Traps s (exec (.wrpsr rs1 src) s) 3)

/-- With no delayed write in flight and no conditional branch directly before, each conditional Bicc completes: where
its condition on N, Z, V, C holds, PC takes nPC and nPC the address of the branch + 4 times the signed displacement,
annulling nothing; where it does not, PC and nPC advance and the annul bit sets the annul flag. BA is always taken and
BN never, and both annul where the bit is set. Nothing else changes. (42_control_transfer.md R320;
42_control_transfer.md R321; 42_control_transfer.md R324; 30_encoding.md R155) -/
def Obligations.IntegerBranches : Prop :=
  ∀ (s : State) (annul : Bool) (disp : BitVec 22), s.quiet → s.prev.conditional = false →
    let i := s.psr.icc
    Transfers s (exec (.bn annul disp) s) (s.npc + 4) annul ∧
    (if i.z = true then Transfers s (exec (.be annul disp) s) (s.pc + BitVec.ofInt 32 (4 * disp.toInt)) false
      else Transfers s (exec (.be annul disp) s) (s.npc + 4) annul) ∧
    (if (i.z || (i.n != i.v)) = true then Transfers s (exec (.ble annul disp) s) (s.pc + BitVec.ofInt 32 (4 *
        disp.toInt)) false
      else Transfers s (exec (.ble annul disp) s) (s.npc + 4) annul) ∧
    (if (i.n != i.v) = true then Transfers s (exec (.bl annul disp) s) (s.pc + BitVec.ofInt 32 (4 * disp.toInt)) false
      else Transfers s (exec (.bl annul disp) s) (s.npc + 4) annul) ∧
    (if (i.c || i.z) = true then Transfers s (exec (.bleu annul disp) s) (s.pc + BitVec.ofInt 32 (4 * disp.toInt))
        false
      else Transfers s (exec (.bleu annul disp) s) (s.npc + 4) annul) ∧
    (if i.c = true then Transfers s (exec (.bcs annul disp) s) (s.pc + BitVec.ofInt 32 (4 * disp.toInt)) false
      else Transfers s (exec (.bcs annul disp) s) (s.npc + 4) annul) ∧
    (if i.n = true then Transfers s (exec (.bneg annul disp) s) (s.pc + BitVec.ofInt 32 (4 * disp.toInt)) false
      else Transfers s (exec (.bneg annul disp) s) (s.npc + 4) annul) ∧
    (if i.v = true then Transfers s (exec (.bvs annul disp) s) (s.pc + BitVec.ofInt 32 (4 * disp.toInt)) false
      else Transfers s (exec (.bvs annul disp) s) (s.npc + 4) annul) ∧
    Transfers s (exec (.ba annul disp) s) (s.pc + BitVec.ofInt 32 (4 * disp.toInt)) annul ∧
    (if (!i.z) = true then Transfers s (exec (.bne annul disp) s) (s.pc + BitVec.ofInt 32 (4 * disp.toInt)) false
      else Transfers s (exec (.bne annul disp) s) (s.npc + 4) annul) ∧
    (if (!i.z && (i.n == i.v)) = true then Transfers s (exec (.bg annul disp) s) (s.pc + BitVec.ofInt 32 (4 *
        disp.toInt)) false
      else Transfers s (exec (.bg annul disp) s) (s.npc + 4) annul) ∧
    (if (i.n == i.v) = true then Transfers s (exec (.bge annul disp) s) (s.pc + BitVec.ofInt 32 (4 * disp.toInt))
        false
      else Transfers s (exec (.bge annul disp) s) (s.npc + 4) annul) ∧
    (if (!i.c && !i.z) = true then Transfers s (exec (.bgu annul disp) s) (s.pc + BitVec.ofInt 32 (4 * disp.toInt))
        false
      else Transfers s (exec (.bgu annul disp) s) (s.npc + 4) annul) ∧
    (if (!i.c) = true then Transfers s (exec (.bcc annul disp) s) (s.pc + BitVec.ofInt 32 (4 * disp.toInt)) false
      else Transfers s (exec (.bcc annul disp) s) (s.npc + 4) annul) ∧
    (if (!i.n) = true then Transfers s (exec (.bpos annul disp) s) (s.pc + BitVec.ofInt 32 (4 * disp.toInt)) false
      else Transfers s (exec (.bpos annul disp) s) (s.npc + 4) annul) ∧
    (if (!i.v) = true then Transfers s (exec (.bvc annul disp) s) (s.pc + BitVec.ofInt 32 (4 * disp.toInt)) false
      else Transfers s (exec (.bvc annul disp) s) (s.npc + 4) annul)

/-- With the FPU ready, or, with no delayed write in flight, enabled, present and in exception mode (in which FBfcc
executes on the present fcc: R440 marks this as its own inference, DEDUCED), and no conditional branch and no
floating-point instruction directly before, each FBfcc completes as the integer branch of the same form does, its
condition being a set of the four values of fcc (0 equal, 1 less, 2 greater, 3 unordered); FBA and FBN do not depend
on fcc. Nothing else changes. (42_control_transfer.md R341; 42_control_transfer.md R342 to R357; 30_encoding.md R156;
42_control_transfer.md R321; 44_fpop_cpop.md R440) -/
def Obligations.FloatingBranches : Prop :=
  ∀ (s : State) (annul : Bool) (disp : BitVec 22), (s.fpReady ∨ (s.quiet ∧ s.psr.ef = true ∧ s.cfg.fpuPresent = true ∧ s.fpu.mode = .exception)) → s.prev.conditional = false → s.prev.fp = false →
    let c := s.fpu.fsr.fcc
    Transfers s (exec (.fbn annul disp) s) (s.npc + 4) annul ∧
    (if c = 1 ∨ c = 2 ∨ c = 3 then Transfers s (exec (.fbne annul disp) s) (s.pc + BitVec.ofInt 32 (4 * disp.toInt))
        false
      else Transfers s (exec (.fbne annul disp) s) (s.npc + 4) annul) ∧
    (if c = 1 ∨ c = 2 then Transfers s (exec (.fblg annul disp) s) (s.pc + BitVec.ofInt 32 (4 * disp.toInt)) false
      else Transfers s (exec (.fblg annul disp) s) (s.npc + 4) annul) ∧
    (if c = 1 ∨ c = 3 then Transfers s (exec (.fbul annul disp) s) (s.pc + BitVec.ofInt 32 (4 * disp.toInt)) false
      else Transfers s (exec (.fbul annul disp) s) (s.npc + 4) annul) ∧
    (if c = 1 then Transfers s (exec (.fbl annul disp) s) (s.pc + BitVec.ofInt 32 (4 * disp.toInt)) false
      else Transfers s (exec (.fbl annul disp) s) (s.npc + 4) annul) ∧
    (if c = 2 ∨ c = 3 then Transfers s (exec (.fbug annul disp) s) (s.pc + BitVec.ofInt 32 (4 * disp.toInt)) false
      else Transfers s (exec (.fbug annul disp) s) (s.npc + 4) annul) ∧
    (if c = 2 then Transfers s (exec (.fbg annul disp) s) (s.pc + BitVec.ofInt 32 (4 * disp.toInt)) false
      else Transfers s (exec (.fbg annul disp) s) (s.npc + 4) annul) ∧
    (if c = 3 then Transfers s (exec (.fbu annul disp) s) (s.pc + BitVec.ofInt 32 (4 * disp.toInt)) false
      else Transfers s (exec (.fbu annul disp) s) (s.npc + 4) annul) ∧
    Transfers s (exec (.fba annul disp) s) (s.pc + BitVec.ofInt 32 (4 * disp.toInt)) annul ∧
    (if c = 0 then Transfers s (exec (.fbe annul disp) s) (s.pc + BitVec.ofInt 32 (4 * disp.toInt)) false
      else Transfers s (exec (.fbe annul disp) s) (s.npc + 4) annul) ∧
    (if c = 0 ∨ c = 3 then Transfers s (exec (.fbue annul disp) s) (s.pc + BitVec.ofInt 32 (4 * disp.toInt)) false
      else Transfers s (exec (.fbue annul disp) s) (s.npc + 4) annul) ∧
    (if c = 0 ∨ c = 2 then Transfers s (exec (.fbge annul disp) s) (s.pc + BitVec.ofInt 32 (4 * disp.toInt)) false
      else Transfers s (exec (.fbge annul disp) s) (s.npc + 4) annul) ∧
    (if c = 0 ∨ c = 2 ∨ c = 3 then Transfers s (exec (.fbuge annul disp) s) (s.pc + BitVec.ofInt 32 (4 * disp.toInt))
        false
      else Transfers s (exec (.fbuge annul disp) s) (s.npc + 4) annul) ∧
    (if c = 0 ∨ c = 1 then Transfers s (exec (.fble annul disp) s) (s.pc + BitVec.ofInt 32 (4 * disp.toInt)) false
      else Transfers s (exec (.fble annul disp) s) (s.npc + 4) annul) ∧
    (if c = 0 ∨ c = 1 ∨ c = 3 then Transfers s (exec (.fbule annul disp) s) (s.pc + BitVec.ofInt 32 (4 * disp.toInt))
        false
      else Transfers s (exec (.fbule annul disp) s) (s.npc + 4) annul) ∧
    (if c = 0 ∨ c = 1 ∨ c = 2 then Transfers s (exec (.fbo annul disp) s) (s.pc + BitVec.ofInt 32 (4 * disp.toInt))
        false
      else Transfers s (exec (.fbo annul disp) s) (s.npc + 4) annul)

/-- With the coprocessor ready and no conditional branch and no coprocessor instruction directly before, each CBccc
completes as the integer branch of the same form does, its condition being a set of the four values of bp_CP_cc, a
function of the whole coprocessor; CBA and CBN do not depend on it. Nothing else changes. (42_control_transfer.md
R393; 42_control_transfer.md R394 to R409; 30_encoding.md R157; 44_fpop_cpop.md R480) -/
def Obligations.CoprocessorBranches : Prop :=
  ∀ (s : State) (annul : Bool) (disp : BitVec 22), s.cpReady → s.prev.conditional = false → s.prev.cp = false →
    let c := Config.cpCc s.cp
    Transfers s (exec (.cbn annul disp) s) (s.npc + 4) annul ∧
    (if c = 1 ∨ c = 2 ∨ c = 3 then Transfers s (exec (.cb123 annul disp) s) (s.pc + BitVec.ofInt 32 (4 * disp.toInt))
        false
      else Transfers s (exec (.cb123 annul disp) s) (s.npc + 4) annul) ∧
    (if c = 1 ∨ c = 2 then Transfers s (exec (.cb12 annul disp) s) (s.pc + BitVec.ofInt 32 (4 * disp.toInt)) false
      else Transfers s (exec (.cb12 annul disp) s) (s.npc + 4) annul) ∧
    (if c = 1 ∨ c = 3 then Transfers s (exec (.cb13 annul disp) s) (s.pc + BitVec.ofInt 32 (4 * disp.toInt)) false
      else Transfers s (exec (.cb13 annul disp) s) (s.npc + 4) annul) ∧
    (if c = 1 then Transfers s (exec (.cb1 annul disp) s) (s.pc + BitVec.ofInt 32 (4 * disp.toInt)) false
      else Transfers s (exec (.cb1 annul disp) s) (s.npc + 4) annul) ∧
    (if c = 2 ∨ c = 3 then Transfers s (exec (.cb23 annul disp) s) (s.pc + BitVec.ofInt 32 (4 * disp.toInt)) false
      else Transfers s (exec (.cb23 annul disp) s) (s.npc + 4) annul) ∧
    (if c = 2 then Transfers s (exec (.cb2 annul disp) s) (s.pc + BitVec.ofInt 32 (4 * disp.toInt)) false
      else Transfers s (exec (.cb2 annul disp) s) (s.npc + 4) annul) ∧
    (if c = 3 then Transfers s (exec (.cb3 annul disp) s) (s.pc + BitVec.ofInt 32 (4 * disp.toInt)) false
      else Transfers s (exec (.cb3 annul disp) s) (s.npc + 4) annul) ∧
    Transfers s (exec (.cba annul disp) s) (s.pc + BitVec.ofInt 32 (4 * disp.toInt)) annul ∧
    (if c = 0 then Transfers s (exec (.cb0 annul disp) s) (s.pc + BitVec.ofInt 32 (4 * disp.toInt)) false
      else Transfers s (exec (.cb0 annul disp) s) (s.npc + 4) annul) ∧
    (if c = 0 ∨ c = 3 then Transfers s (exec (.cb03 annul disp) s) (s.pc + BitVec.ofInt 32 (4 * disp.toInt)) false
      else Transfers s (exec (.cb03 annul disp) s) (s.npc + 4) annul) ∧
    (if c = 0 ∨ c = 2 then Transfers s (exec (.cb02 annul disp) s) (s.pc + BitVec.ofInt 32 (4 * disp.toInt)) false
      else Transfers s (exec (.cb02 annul disp) s) (s.npc + 4) annul) ∧
    (if c = 0 ∨ c = 2 ∨ c = 3 then Transfers s (exec (.cb023 annul disp) s) (s.pc + BitVec.ofInt 32 (4 * disp.toInt))
        false
      else Transfers s (exec (.cb023 annul disp) s) (s.npc + 4) annul) ∧
    (if c = 0 ∨ c = 1 then Transfers s (exec (.cb01 annul disp) s) (s.pc + BitVec.ofInt 32 (4 * disp.toInt)) false
      else Transfers s (exec (.cb01 annul disp) s) (s.npc + 4) annul) ∧
    (if c = 0 ∨ c = 1 ∨ c = 3 then Transfers s (exec (.cb013 annul disp) s) (s.pc + BitVec.ofInt 32 (4 * disp.toInt))
        false
      else Transfers s (exec (.cb013 annul disp) s) (s.npc + 4) annul) ∧
    (if c = 0 ∨ c = 1 ∨ c = 2 then Transfers s (exec (.cb012 annul disp) s) (s.pc + BitVec.ofInt 32 (4 * disp.toInt))
        false
      else Transfers s (exec (.cb012 annul disp) s) (s.npc + 4) annul)

/-- Directly after a conditional branch, with no delayed write in flight, every Bicc, with the FPU ready every FBfcc
and with the coprocessor ready every CBccc completes with PC and nPC some word addresses, the annul flag set by its
annul bit or not, and nothing else changed; CALL, JMPL to an aligned address and a RETT that does not fail complete
with PC and nPC some word addresses and the rest as they do elsewhere. Where a branch not taken annuls a delayed
control transfer, the skip too leaves PC and nPC some word addresses, and any other annulled word is skipped
mechanically; nothing else changes. That the case applies whether or not the first branch is taken is decision D15 of
the spec's file 92, and that the two addresses are free values is U22 of file 93 (log entry 26).
(70_reset_and_hazards.md R584; 42_control_transfer.md R358) -/
def Obligations.CoupleAfterConditionalBranch : Prop :=
  (∀ (s : State) (annul : Bool) (disp : BitVec 22), s.quiet → s.prev.conditional = true →
    let Open (i : Instr) : Prop := ∃ t, exec i s = .next t ∧ wordAligned t.pc ∧ wordAligned t.npc ∧
      (t.annul = s.annul ∨ t.annul = (s.annul || annul)) ∧ RegsKept s t ∧ MemKept s t ∧ OnlyPcs s t
    (∀ i ∈ [Instr.bn annul disp, .be annul disp, .ble annul disp, .bl annul disp, .bleu annul disp, .bcs annul disp,
      .bneg annul disp, .bvs annul disp, .ba annul disp, .bne annul disp, .bg annul disp, .bge annul disp, .bgu
      annul disp, .bcc annul disp, .bpos annul disp, .bvc annul disp], Open i) ∧
    (s.fpReady → ∀ i ∈ [Instr.fbn annul disp, .fbne annul disp, .fblg annul disp, .fbul annul disp, .fbl annul disp, .fbug annul
      disp, .fbg annul disp, .fbu annul disp, .fba annul disp, .fbe annul disp, .fbue annul disp, .fbge annul
      disp, .fbuge annul disp, .fble annul disp, .fbule annul disp, .fbo annul disp], Open i) ∧
    (s.cpReady → ∀ i ∈ [Instr.cbn annul disp, .cb123 annul disp, .cb12 annul disp, .cb13 annul disp, .cb1 annul disp, .cb23 annul
      disp, .cb2 annul disp, .cb3 annul disp, .cba annul disp, .cb0 annul disp, .cb03 annul disp, .cb02 annul
      disp, .cb023 annul disp, .cb01 annul disp, .cb013 annul disp, .cb012 annul disp], Open i)) ∧
  (∀ (s : State) (disp : BitVec 30) (rd rs1 : Reg) (src : Operand2), s.quiet → s.prev.conditional = true →
    (∃ t, exec (.call disp) s = .next t ∧ wordAligned t.pc ∧ wordAligned t.npc ∧ Holds t s.psr.cwp 15 s.pc ∧
      RegsKeptBut s t s.psr.cwp 15 ∧ MemKept s t ∧ OnlyRegs s t) ∧
    ((s.address rs1 src).toNat % 4 = 0 →
      ∃ t, exec (.jmpl rd rs1 src) s = .next t ∧ wordAligned t.pc ∧ wordAligned t.npc ∧ Holds t s.psr.cwp rd s.pc ∧
        RegsKeptBut s t s.psr.cwp rd ∧ MemKept s t ∧ OnlyRegs s t) ∧
    (let w : BitVec 5 := BitVec.ofNat 5 ((s.psr.cwp.toNat + 1) % nwindows s.cfg)
     s.psr.et = false → s.psr.s = true → s.wim.getLsbD w.toNat = false → (s.address rs1 src).toNat % 4 = 0 →
      ∃ t, exec (.rett rs1 src) s = .next t ∧ wordAligned t.pc ∧ wordAligned t.npc ∧
        t.psr = { s.psr with et := true, s := s.psr.ps, cwp := w } ∧ RegsKept s t ∧ MemKept s t ∧
        Completed { s with psr := t.psr, fetchOpen := !s.prev.jmpl } t)) ∧
  (∀ (s : State) (k : Nat), s.iu = .execute → s.inputs.resetIn = false → s.coming = [] → s.quiet → s.annul = true →
    s.unitsSequential → s.fetchOpen = false → s.stale = [] → s.prev.conditional = true → wordAligned s.npc →
    s.locate .fetch (if s.psr.s then 9 else 8) s.pc = some k →
    ∃ t, step s = .next t ∧ wordAligned t.pc ∧ wordAligned t.npc ∧
      (delayedTransfer (Memory.word s.mem k) = false → Advanced s t) ∧
      t = { s with pc := t.pc, npc := t.npc, annul := false, tick := t.tick,
                   prev := { s.prev with conditional := false, jmpl := false } })

/-- With no delayed write in flight and no conditional branch directly before, CALL completes: r[15] holds its
address, PC takes nPC and nPC its address + 4 times the displacement. JMPL to an address divisible by 4 completes:
r[rd] holds its address, PC takes nPC and nPC the address, computed before r[rd] is written; to any other address,
with ET = 1, it takes mem_address_not_aligned, tt = 7. Nothing else changes. (42_control_transfer.md R320;
42_control_transfer.md R370; 42_control_transfer.md R372) -/
def Obligations.CallAndJump : Prop :=
  ∀ (s : State) (disp : BitVec 30) (rd rs1 : Reg) (src : Operand2), s.quiet → s.prev.conditional = false →
    (∃ t, exec (.call disp) s = .next t ∧ t.pc = s.npc ∧ t.npc = s.pc + BitVec.ofNat 32 (4 * disp.toNat) ∧
      Holds t s.psr.cwp 15 s.pc ∧ RegsKeptBut s t s.psr.cwp 15 ∧ MemKept s t ∧ OnlyRegs s t) ∧
    ((s.address rs1 src).toNat % 4 = 0 →
      ∃ t, exec (.jmpl rd rs1 src) s = .next t ∧ t.pc = s.npc ∧ t.npc = s.address rs1 src ∧
        Holds t s.psr.cwp rd s.pc ∧ RegsKeptBut s t s.psr.cwp rd ∧ MemKept s t ∧ OnlyRegs s t) ∧
    ((s.address rs1 src).toNat % 4 ≠ 0 → s.psr.et = true → Traps s (exec (.jmpl rd rs1 src) s) 7)

/-- With no delayed write in flight: with ET = 1, RETT takes illegal_instruction, in either mode. With ET = 0 it
enters error_mode with tt 3 in user mode, else with tt 6 where the WIM bit of the window above is set, else with tt 7
at an address not divisible by 4 (nothing of this where reset is requested at the check that follows: R570). Else,
with no conditional branch directly before, it completes: ET = 1, S = PS, CWP the window above, PC takes nPC and nPC
the address; the rest of the PSR, every register, every byte of memory and everything else are unchanged, but that the
address space of the next fetch is open where no JMPL came directly before (R585, log entry 27).
(42_control_transfer.md R374; 60_exceptions.md R530; 70_reset_and_hazards.md R585) -/
def Obligations.ReturnFromTrap : Prop :=
  ∀ (s : State) (rs1 : Reg) (src : Operand2), s.quiet →
    let w : BitVec 5 := BitVec.ofNat 5 ((s.psr.cwp.toNat + 1) % nwindows s.cfg)
    let a := s.address rs1 src
    let o := exec (.rett rs1 src) s
    let Fails (tt : BitVec 8) : Prop :=
      ∃ t, o = .next t ∧ if s.resetAhead = true then t = s else ErrorEntered { s with tt := tt } t
    if s.psr.et = true then Traps s o 2
    else if s.psr.s = false then Fails 3
    else if s.wim.getLsbD w.toNat = true then Fails 6
    else if a.toNat % 4 ≠ 0 then Fails 7
    else s.prev.conditional = false →
      ∃ t, o = .next t ∧ t.pc = s.npc ∧ t.npc = a ∧ t.psr = { s.psr with et := true, s := s.psr.ps, cwp := w } ∧
        RegsKept s t ∧ MemKept s t ∧
        t = { s with pc := t.pc, npc := t.npc, psr := t.psr, prev := s.current, stale := s.unflushed,
                     fetchOpen := !s.prev.jmpl }

/-- With no delayed write in flight, each Ticc whose condition on N, Z, V, C holds takes, with ET = 1,
trap_instruction with tt = 128 + the low seven bits of the sum of r[rs1] and the second operand; where the condition
does not hold it completes with no effect but the advance. TA always traps and TN never does. (42_control_transfer.md
R376; 42_control_transfer.md R377 to R392; 30_encoding.md R155; 60_exceptions.md R502) -/
def Obligations.TrapOnCondition : Prop :=
  ∀ (s : State) (rs1 : Reg) (src : Operand2), s.quiet →
    let i := s.psr.icc
    Passes s (exec (.tn rs1 src) s) ∧
    (if i.z = true then s.psr.et = true → Traps s (exec (.te rs1 src) s) (BitVec.ofNat 8 (128 + (s.address rs1
        src).toNat % 128))
      else Passes s (exec (.te rs1 src) s)) ∧
    (if (i.z || (i.n != i.v)) = true then s.psr.et = true → Traps s (exec (.tle rs1 src) s) (BitVec.ofNat 8 (128 +
        (s.address rs1 src).toNat % 128))
      else Passes s (exec (.tle rs1 src) s)) ∧
    (if (i.n != i.v) = true then s.psr.et = true → Traps s (exec (.tl rs1 src) s) (BitVec.ofNat 8 (128 + (s.address
        rs1 src).toNat % 128))
      else Passes s (exec (.tl rs1 src) s)) ∧
    (if (i.c || i.z) = true then s.psr.et = true → Traps s (exec (.tleu rs1 src) s) (BitVec.ofNat 8 (128 + (s.address
        rs1 src).toNat % 128))
      else Passes s (exec (.tleu rs1 src) s)) ∧
    (if i.c = true then s.psr.et = true → Traps s (exec (.tcs rs1 src) s) (BitVec.ofNat 8 (128 + (s.address rs1
        src).toNat % 128))
      else Passes s (exec (.tcs rs1 src) s)) ∧
    (if i.n = true then s.psr.et = true → Traps s (exec (.tneg rs1 src) s) (BitVec.ofNat 8 (128 + (s.address rs1
        src).toNat % 128))
      else Passes s (exec (.tneg rs1 src) s)) ∧
    (if i.v = true then s.psr.et = true → Traps s (exec (.tvs rs1 src) s) (BitVec.ofNat 8 (128 + (s.address rs1
        src).toNat % 128))
      else Passes s (exec (.tvs rs1 src) s)) ∧
    (s.psr.et = true → Traps s (exec (.ta rs1 src) s) (BitVec.ofNat 8 (128 + (s.address rs1 src).toNat % 128))) ∧
    (if (!i.z) = true then s.psr.et = true → Traps s (exec (.tne rs1 src) s) (BitVec.ofNat 8 (128 + (s.address rs1
        src).toNat % 128))
      else Passes s (exec (.tne rs1 src) s)) ∧
    (if (!i.z && (i.n == i.v)) = true then s.psr.et = true → Traps s (exec (.tg rs1 src) s) (BitVec.ofNat 8 (128 +
        (s.address rs1 src).toNat % 128))
      else Passes s (exec (.tg rs1 src) s)) ∧
    (if (i.n == i.v) = true then s.psr.et = true → Traps s (exec (.tge rs1 src) s) (BitVec.ofNat 8 (128 + (s.address
        rs1 src).toNat % 128))
      else Passes s (exec (.tge rs1 src) s)) ∧
    (if (!i.c && !i.z) = true then s.psr.et = true → Traps s (exec (.tgu rs1 src) s) (BitVec.ofNat 8 (128 +
        (s.address rs1 src).toNat % 128))
      else Passes s (exec (.tgu rs1 src) s)) ∧
    (if (!i.c) = true then s.psr.et = true → Traps s (exec (.tcc rs1 src) s) (BitVec.ofNat 8 (128 + (s.address rs1
        src).toNat % 128))
      else Passes s (exec (.tcc rs1 src) s)) ∧
    (if (!i.n) = true then s.psr.et = true → Traps s (exec (.tpos rs1 src) s) (BitVec.ofNat 8 (128 + (s.address rs1
        src).toNat % 128))
      else Passes s (exec (.tpos rs1 src) s)) ∧
    (if (!i.v) = true then s.psr.et = true → Traps s (exec (.tvc rs1 src) s) (BitVec.ofNat 8 (128 + (s.address rs1
        src).toNat % 128))
      else Passes s (exec (.tvc rs1 src) s))

/-- With ET = 0 and no delayed write in flight, what would be a trap with ET = 1 puts both units in error_mode with
pb_error asserted, and every register, tt, the PSR, PC, nPC, every byte of memory and everything else are as before,
but for the two effects of an outstanding exception named here: a misaligned or refused access of every integer load,
store and atomic instruction, normal or alternate; JMPL to a misaligned address; every privileged instruction but RETT
in user mode; UNIMP, IFLUSH with only an external cache, WRPSR of a bad CWP; SAVE and RESTORE into an invalid window;
TADDccTV and TSUBccTV with a tagged overflow; every Ticc whose condition holds; every floating-point and coprocessor
instruction whose unit is disabled or absent, or has an exception outstanding (at an fp_exception qne is written, 1
where the queue is not empty, and the FPU, which enters exception mode by R542, ends in error_mode by R530; at a
cp_exception the coprocessor enters exception mode, R548, and has no error_mode: log entries 29 and 33); misaligned
and refused accesses of the floating-point and coprocessor loads and stores named; a word that is no instruction; a
refused fetch. (RETT with ET = 0 has a statement of its own: it writes tt.) In each case error_mode is not entered
where reset is requested at the check that follows (R570, log entry 42, DEDUCED); the two effects named stay, and the
FPU is then in exception mode. (60_exceptions.md R530; 60_exceptions.md R542; 60_exceptions.md R548;
70_reset_and_hazards.md R570) -/
def Obligations.DisabledTrapsEnterErrorMode : Prop :=
  (∀ (s : State) (rd rs1 rs2 : Reg) (src : Operand2) (asi : Byte), s.quiet → s.psr.et = false →
    let Refused (acc : Access) (n : Nat) (asi : Byte) (a : Word) (i : Instr) : Prop :=
      a.toNat % n = 0 → s.refusedAt acc asi a → Errs s (exec i s)
    let Misaligned (n : Nat) (_ : Byte) (a : Word) (i : Instr) : Prop := a.toNat % n ≠ 0 → Errs s (exec i s)
    (s.bothForms rs1 rs2 src asi (Refused .read 1) (.ldsb rd rs1 src) (.ldsba rd rs1 rs2 asi) ∧
     s.bothForms rs1 rs2 src asi (Refused .read 1) (.ldub rd rs1 src) (.lduba rd rs1 rs2 asi) ∧
     s.bothForms rs1 rs2 src asi (Refused .read 2) (.ldsh rd rs1 src) (.ldsha rd rs1 rs2 asi) ∧
     s.bothForms rs1 rs2 src asi (Refused .read 2) (.lduh rd rs1 src) (.lduha rd rs1 rs2 asi) ∧
     s.bothForms rs1 rs2 src asi (Refused .read 4) (.ld rd rs1 src) (.lda rd rs1 rs2 asi) ∧
     s.bothForms rs1 rs2 src asi (Refused .read 8) (.ldd rd rs1 src) (.ldda rd rs1 rs2 asi) ∧
     s.bothForms rs1 rs2 src asi (Refused .read 1) (.ldstub rd rs1 src) (.ldstuba rd rs1 rs2 asi) ∧
     s.bothForms rs1 rs2 src asi (Refused .read 4) (.swap rd rs1 src) (.swapa rd rs1 rs2 asi) ∧
     s.bothForms rs1 rs2 src asi (Refused .write 1) (.stb rd rs1 src) (.stba rd rs1 rs2 asi) ∧
     s.bothForms rs1 rs2 src asi (Refused .write 2) (.sth rd rs1 src) (.stha rd rs1 rs2 asi) ∧
     s.bothForms rs1 rs2 src asi (Refused .write 4) (.st rd rs1 src) (.sta rd rs1 rs2 asi) ∧
     s.bothForms rs1 rs2 src asi (Refused .write 8) (.std rd rs1 src) (.stda rd rs1 rs2 asi)) ∧
    (s.bothForms rs1 rs2 src asi (Misaligned 2) (.ldsh rd rs1 src) (.ldsha rd rs1 rs2 asi) ∧
     s.bothForms rs1 rs2 src asi (Misaligned 2) (.lduh rd rs1 src) (.lduha rd rs1 rs2 asi) ∧
     s.bothForms rs1 rs2 src asi (Misaligned 4) (.ld rd rs1 src) (.lda rd rs1 rs2 asi) ∧
     s.bothForms rs1 rs2 src asi (Misaligned 8) (.ldd rd rs1 src) (.ldda rd rs1 rs2 asi) ∧
     s.bothForms rs1 rs2 src asi (Misaligned 4) (.swap rd rs1 src) (.swapa rd rs1 rs2 asi) ∧
     s.bothForms rs1 rs2 src asi (Misaligned 2) (.sth rd rs1 src) (.stha rd rs1 rs2 asi) ∧
     s.bothForms rs1 rs2 src asi (Misaligned 4) (.st rd rs1 src) (.sta rd rs1 rs2 asi) ∧
     s.bothForms rs1 rs2 src asi (Misaligned 8) (.std rd rs1 src) (.stda rd rs1 rs2 asi) ∧
     ((s.address rs1 src).toNat % 4 ≠ 0 → Errs s (exec (.jmpl rd rs1 src) s))) ∧
    (s.psr.s = false →
      (∀ i ∈ [Instr.ldsba rd rs1 rs2 asi, .ldsha rd rs1 rs2 asi, .lduba rd rs1 rs2 asi, .lduha rd rs1 rs2 asi,
        .lda rd rs1 rs2 asi, .ldda rd rs1 rs2 asi, .stba rd rs1 rs2 asi, .stha rd rs1 rs2 asi, .sta rd rs1 rs2 asi,
        .stda rd rs1 rs2 asi, .ldstuba rd rs1 rs2 asi, .swapa rd rs1 rs2 asi, .rdpsr rd, .rdwim rd, .rdtbr rd,
        .wrpsr rs1 src, .wrwim rs1 src, .wrtbr rs1 src, .stdfq rs1 src, .stdcq rs1 src], Errs s (exec i s)))) ∧
  (∀ (s : State) (rd rs1 : Reg) (src : Operand2) (c : BitVec 22), s.quiet → s.psr.et = false →
    let a := s.r rs1
    let b := s.operand src
    let i := s.psr.icc
    Errs s (exec (.unimp c) s) ∧
    (s.cfg.iuCachePresent = false → s.cfg.extCachePresent = true → Errs s (exec (.iflush rs1 src) s)) ∧
    (nwindows s.cfg ≤ ((a ^^^ b).extractLsb' 0 5).toNat → Errs s (exec (.wrpsr rs1 src) s)) ∧
    (s.wim.getLsbD ((s.psr.cwp.toNat + nwindows s.cfg - 1) % nwindows s.cfg) = true → Errs s (exec (.save rd rs1 src) s)) ∧
    (s.wim.getLsbD ((s.psr.cwp.toNat + 1) % nwindows s.cfg) = true → Errs s (exec (.restore rd rs1 src) s)) ∧
    ((decide (a.toInt + b.toInt ≠ (a + b).toInt) || decide (a.toNat % 4 ≠ 0) || decide (b.toNat % 4 ≠ 0)) = true →
      Errs s (exec (.taddcctv rd rs1 src) s)) ∧
    ((decide (a.toInt - b.toInt ≠ (a - b).toInt) || decide (a.toNat % 4 ≠ 0) || decide (b.toNat % 4 ≠ 0)) = true →
      Errs s (exec (.tsubcctv rd rs1 src) s)) ∧
    (Errs s (exec (.ta rs1 src) s) ∧
     (i.z = true → Errs s (exec (.te rs1 src) s)) ∧
     ((i.z || (i.n != i.v)) = true → Errs s (exec (.tle rs1 src) s)) ∧
     ((i.n != i.v) = true → Errs s (exec (.tl rs1 src) s)) ∧
     ((i.c || i.z) = true → Errs s (exec (.tleu rs1 src) s)) ∧
     (i.c = true → Errs s (exec (.tcs rs1 src) s)) ∧
     (i.n = true → Errs s (exec (.tneg rs1 src) s)) ∧
     (i.v = true → Errs s (exec (.tvs rs1 src) s)) ∧
     ((!i.z) = true → Errs s (exec (.tne rs1 src) s)) ∧
     ((!i.z && (i.n == i.v)) = true → Errs s (exec (.tg rs1 src) s)) ∧
     ((i.n == i.v) = true → Errs s (exec (.tge rs1 src) s)) ∧
     ((!i.c && !i.z) = true → Errs s (exec (.tgu rs1 src) s)) ∧
     ((!i.c) = true → Errs s (exec (.tcc rs1 src) s)) ∧
     ((!i.n) = true → Errs s (exec (.tpos rs1 src) s)) ∧
     ((!i.v) = true → Errs s (exec (.tvc rs1 src) s)))) ∧
  (∀ (s : State) (i : Instr), s.quiet → s.psr.et = false →
    (∀ rs1 src, i = .stdfq rs1 src → s.psr.s = true) → (∀ rs1 src, i = .stdcq rs1 src → s.psr.s = true) →
    ((kindOf i).fp = true → s.psr.ef = false ∨ s.cfg.fpuPresent = false → Errs s (exec i s)) ∧
    ((kindOf i).fp = true → s.psr.ef = true → s.cfg.fpuPresent = true → s.fpu.mode = .exceptionPending →
      Errs { s with fpu := { s.fpu with mode := .exception, fsr := { s.fpu.fsr with qne := decide (s.fpu.queue ≠ []) } } }
        (exec i s)) ∧
    ((kindOf i).cp = true → s.psr.ec = false ∨ s.cfg.cpPresent = false → Errs s (exec i s)) ∧
    ((kindOf i).cp = true → s.psr.ec = true → s.cfg.cpPresent = true → s.cpPending = true →
      Errs { s with cp := { s.cp with mode := .exception } } (exec i s))) ∧
  (∀ (s : State) (rd rs1 : Reg) (src : Operand2), s.psr.et = false →
    let a := s.address rs1 src
    (s.fpReady →
      (a.toNat % 4 ≠ 0 → ∀ i ∈ [Instr.ldf rd rs1 src, .ldfsr rs1 src, .stf rd rs1 src, .stfsr rs1 src], Errs s (exec i s)) ∧
      (a.toNat % 8 ≠ 0 → ∀ i ∈ [Instr.lddf rd rs1 src, .stdf rd rs1 src], Errs s (exec i s)) ∧
      (a.toNat % 4 = 0 → s.refusedAt .write s.space a →
        ∀ i ∈ [Instr.stf rd rs1 src, .stfsr rs1 src], Errs s (exec i s)) ∧
      (a.toNat % 4 = 0 → s.refusedAt .read s.space a → Errs s (exec (.ldfsr rs1 src) s))) ∧
    (s.cpReady →
      (a.toNat % 4 ≠ 0 →
        ∀ i ∈ [Instr.ldc rd rs1 src, .ldcsr rs1 src, .stc rd rs1 src, .stcsr rs1 src], Errs s (exec i s)) ∧
      (a.toNat % 8 ≠ 0 → ∀ i ∈ [Instr.lddc rd rs1 src, .stdc rd rs1 src], Errs s (exec i s)) ∧
      (a.toNat % 4 = 0 → s.refusedAt .write s.space a →
        ∀ i ∈ [Instr.stc rd rs1 src, .stcsr rs1 src], Errs s (exec i s)))) ∧
  (∀ (s : State) (w : Word) (e : DecodeError), s.quiet → s.psr.et = false → decodeWord w = .error e → e ≠
      .unassignedFpop →
    Errs (s.executing Kind.plain) (s.executeWord w)) ∧
  (∀ s : State, s.iu = .execute → s.inputs = ⟨0, false⟩ → s.coming = [] → s.quiet → s.annul = false → s.fetchOpen =
    false →
    s.unitsSequential → s.psr.et = false → s.refusedAt .fetch (if s.psr.s then 9 else 8) s.pc →
    Errs { s with tick := s.tick + 1 } (step s))

/-- With no delayed write in flight, RDY completes with r[rd] the Y register; in supervisor mode RDPSR, RDWIM and
RDTBR complete with r[rd] the PSR (impl, ver, N, Z, V, C, six zero bits (the reserved bits 19:14: decision D7 of the
spec's file 92, log entry 30, DESIGN CHOICE), EC, EF, PIL, S, PS, ET, CWP from the top), the WIM and the TBR (TBA, tt,
four zero bits); nothing else changes. (43_state_regs_misc.md R411; 43_state_regs_misc.md R412; 43_state_regs_misc.md
R414; 43_state_regs_misc.md R415; 10_state.md R45) -/
def Obligations.ReadStateRegisters : Prop :=
  ∀ (s : State) (rd : Reg), s.quiet →
    WritesReg s (exec (.rdy rd) s) rd s.y ∧
    (s.psr.s = true →
      WritesReg s (exec (.rdpsr rd) s) rd (s.cfg.impl ++ s.cfg.ver ++ BitVec.ofBool s.psr.icc.n ++ BitVec.ofBool
          s.psr.icc.z ++
        BitVec.ofBool s.psr.icc.v ++ BitVec.ofBool s.psr.icc.c ++ 0#6 ++ BitVec.ofBool s.psr.ec ++ BitVec.ofBool
            s.psr.ef ++
        s.psr.pil ++ BitVec.ofBool s.psr.s ++ BitVec.ofBool s.psr.ps ++ BitVec.ofBool s.psr.et ++ s.psr.cwp) ∧
      WritesReg s (exec (.rdwim rd) s) rd s.wim ∧
      WritesReg s (exec (.rdtbr rd) s) rd (s.tba ++ s.tt ++ 0#4))

/-- With no delayed write in flight and v the exclusive or of r[rs1] and the second operand: WRY completes with Y = v.
In supervisor mode WRPSR, where the low five bits of v name a window, completes with every writable field of the PSR
from its place in v (the reserved bits 19:14 hold nothing: D7, log entry 30, DESIGN CHOICE); WRWIM with the bits of v
below NWINDOWS and zeros above; WRTBR with TBA = v[31:12] and tt kept. Of each field that changes, and of no other,
the old value is then in flight for three instructions, and nothing else changes. With ET = 1 and no delayed write in
flight, WRPSR of a value whose low five bits are NWINDOWS or more takes illegal_instruction, tt = 2, in either mode;
nothing of the PSR changes but by the trap's entry. After such a write every use of a field sees its new or its old
value (D16, log entry 11, DESIGN CHOICE of the spec's file 92: a free choice for each use). A delayed write of one
field changes that field, notes its old value where it differs, and nothing else of the state. In execute_mode,
whatever a step does, every old value in flight after it is one just written, with three instructions left, or one
that was in flight before with one instruction more; so none outlives the third instruction. That another writer of a
field ends its window is the model's choice (log entry 11, DEDUCED: R416 speaks of the three instructions only and of
a trap's entry): the instructions that write icc settle icc, and MULScc icc and Y, in every state; SAVE and RESTORE
settle CWP and RETT settles ET, S and CWP, said here only for states with WIM = 0 and no write of the WIM in flight
(RETT also with ET = 0, S = 1, neither in flight, and an aligned address), in which they complete. Their old values
are then no longer in flight, the others are. A trap's entry leaves none in flight (R416). (43_state_regs_misc.md
R413; 43_state_regs_misc.md R416; 43_state_regs_misc.md R417; 43_state_regs_misc.md R418; 43_state_regs_misc.md R419;
43_state_regs_misc.md R421; 10_state.md R56; 43_state_regs_misc.md R424) -/
def Obligations.WriteStateRegisters : Prop :=
  (∀ (s : State) (rs1 : Reg) (src : Operand2), s.quiet →
    let v := s.r rs1 ^^^ s.operand src
    (∃ t, exec (.wry rs1 src) s = .next t ∧ Advanced s t ∧ t.y = v ∧ DelayedFrom s t ∧ RegsKept s t ∧ MemKept s t ∧
      Completed { s with flight := t.flight, y := t.y } t) ∧
    (s.psr.s = true → (v.extractLsb' 0 5).toNat < nwindows s.cfg →
      ∃ t, exec (.wrpsr rs1 src) s = .next t ∧ Advanced s t ∧
        t.psr = { icc := ⟨v.getLsbD 23, v.getLsbD 22, v.getLsbD 21, v.getLsbD 20⟩, ec := v.getLsbD 13, ef :=
            v.getLsbD 12,
                  pil := v.extractLsb' 8 4, s := v.getLsbD 7, ps := v.getLsbD 6, et := v.getLsbD 5,
                  cwp := v.extractLsb' 0 5 } ∧
        DelayedFrom s t ∧ RegsKept s t ∧ MemKept s t ∧ Completed { s with flight := t.flight, psr := t.psr } t) ∧
    (s.psr.s = true →
      ∃ t, exec (.wrwim rs1 src) s = .next t ∧ Advanced s t ∧
        (∀ i, t.wim.getLsbD i = (v.getLsbD i && decide (i < nwindows s.cfg))) ∧ DelayedFrom s t ∧
        RegsKept s t ∧ MemKept s t ∧ Completed { s with flight := t.flight, wim := t.wim } t) ∧
    (s.psr.s = true →
      ∃ t, exec (.wrtbr rs1 src) s = .next t ∧ Advanced s t ∧ t.tba = v.extractLsb' 12 20 ∧ DelayedFrom s t ∧
        RegsKept s t ∧ MemKept s t ∧ Completed { s with flight := t.flight, tba := t.tba } t)) ∧
  (∀ (s : State) (rs1 : Reg) (src : Operand2), s.quiet → s.psr.et = true →
    nwindows s.cfg ≤ ((s.r rs1 ^^^ s.operand src).extractLsb' 0 5).toNat → Traps s (exec (.wrpsr rs1 src) s) 2) ∧
  (∀ (s t : State) (u : Use) (f : Delayed), DelayedFrom s t → t.see u f = t.live f ∨ t.see u f = s.live f) ∧
  (∀ (s : State) (f : Delayed) (v : Word),
    (∀ g, g ≠ f → (s.putDelayed f v).live g = s.live g) ∧
    ((s.setLive f v).live f = v → (s.putDelayed f v).live f = v) ∧
    (s.putDelayed f v).flight = (if s.live f = v then s.flight else ⟨f, s.live f, 3⟩ :: s.flight) ∧
    s.putDelayed f v = { s with psr := (s.putDelayed f v).psr, wim := (s.putDelayed f v).wim,
                                tba := (s.putDelayed f v).tba, y := (s.putDelayed f v).y,
                                flight := (s.putDelayed f v).flight }) ∧
  (∀ s t : State, s.iu = .execute → step s = .next t →
    ∀ p ∈ t.flight, p.left = 3 ∨ ∃ q ∈ s.flight, q.field = p.field ∧ q.old = p.old ∧ q.left = p.left + 1) ∧
  (∀ (s : State) (rd rs1 : Reg) (src : Operand2),
    (s.wim = 0 → (∀ p ∈ s.flight, p.field ≠ .wim) → ∀ i ∈ [Instr.save rd rs1 src, .restore rd rs1 src],
      ∃ t, exec i s = .next t ∧ Advanced s t ∧ t.flight = s.flight.filter (fun p => p.field != .cwp)) ∧
    (s.wim = 0 → (∀ p ∈ s.flight, p.field ≠ .wim ∧ p.field ≠ .et ∧ p.field ≠ .s) → s.psr.et = false → s.psr.s = true →
      (s.ea rs1 src).toNat % 4 = 0 →
      ∃ t, exec (.rett rs1 src) s = .next t ∧ t.psr.et = true ∧
        t.flight = s.flight.filter (fun p => p.field != .cwp && p.field != .et && p.field != .s)) ∧
    (∀ i ∈ [Instr.addcc rd rs1 src, .addxcc rd rs1 src, .subcc rd rs1 src, .subxcc rd rs1 src, .taddcc rd rs1 src,
        .tsubcc rd rs1 src, .andcc rd rs1 src, .andncc rd rs1 src, .orcc rd rs1 src, .orncc rd rs1 src,
        .xorcc rd rs1 src, .xnorcc rd rs1 src],
      ∃ t, exec i s = .next t ∧ Advanced s t ∧ t.flight = s.flight.filter (fun p => p.field != .icc)) ∧
    (∃ t, exec (.mulscc rd rs1 src) s = .next t ∧ Advanced s t ∧
      t.flight = s.flight.filter (fun p => p.field != .icc && p.field != .y))) ∧
  (∀ (s : State) (rs1 : Reg) (src : Operand2) (trap : Trap),
    (s.trapEntry trap).flight = [] ∧
    (s.psr.et = true → (∀ p ∈ s.flight, p.field ≠ .et) → s.resetAhead = false →
      ∃ t, exec (.ta rs1 src) s = .next t ∧ t.psr.et = false ∧ t.flight = []))

/-- With no delayed write in flight, UNIMP with ET = 1 takes illegal_instruction, tt = 2. IFLUSH completes: where the
IU has a cache, with every note of a store to the word at its address marked flushed (such a note is dropped when one
more instruction has completed: D5, log entry 32) and no other effect; where no cache is present with no effect; where
only an external cache is present it takes illegal_instruction with ET = 1. A fetch delivers the word that memory
holds or an old word noted at its key. (43_state_regs_misc.md R420; 43_state_regs_misc.md R422; 20_memory.md R126) -/
def Obligations.UnimpAndIflush : Prop :=
  (∀ (s : State) (rs1 : Reg) (src : Operand2) (c : BitVec 22), s.quiet →
    (s.psr.et = true → Traps s (exec (.unimp c) s) 2) ∧
    (s.cfg.iuCachePresent = true →
      ∃ t, exec (.iflush rs1 src) s = .next t ∧ Advanced s t ∧ RegsKept s t ∧ MemKept s t ∧
        t = { s with pc := t.pc, npc := t.npc, prev := s.current,
                     stale := s.unflushed.map (fun e =>
                       if e.key % 2 ^ 32 = (s.address rs1 src &&& 0xFFFFFFFC#32).toNat then { e with flushed := true }
                       else e) }) ∧
    (s.cfg.iuCachePresent = false → s.cfg.extCachePresent = false → Passes s (exec (.iflush rs1 src) s)) ∧
    (s.cfg.iuCachePresent = false → s.cfg.extCachePresent = true → s.psr.et = true →
      Traps s (exec (.iflush rs1 src) s) 2)) ∧
  (∀ (s : State) (k : Nat), s.fetchKey k = Memory.word s.mem k ∨ ∃ e ∈ s.stale, e.key = k ∧ s.fetchKey k = e.old)

/-- With the FPU ready, where the memory system answers the accesses at the aligned address: LDF completes with f[rd]
the word at the address; LDDF with the even and odd f register the two words; no other f register, no field of the
FSR, no register and no byte of memory changes. (40_load_store.md R221; 40_load_store.md R222) -/
def Obligations.FloatingLoads : Prop :=
  ∀ (s : State) (rd rs1 : Reg) (src : Operand2) (k : Nat), s.fpReady →
    let a := s.address rs1 src
    let w : Word := Memory.get s.mem k ++ Memory.get s.mem (k + 1) ++ Memory.get s.mem (k + 2) ++ Memory.get s.mem (k
        + 3)
    s.locate .read s.space a = some k →
    (a.toNat % 4 = 0 → ∃ t, exec (.ldf rd rs1 src) s = .next t ∧ Advanced s t ∧ RegsKept s t ∧ MemKept s t ∧ OnlyFpu
        s t ∧
      t.freg rd = w ∧ FregsKeptBut s t [rd] ∧ t.fpu = { s.fpu with f := t.fpu.f }) ∧
    (∀ k', a.toNat % 8 = 0 → s.locate .read s.space (a + 4) = some k' → ∃ t, exec (.lddf rd rs1 src) s = .next t ∧
      Advanced s t ∧ RegsKept s t ∧ MemKept s t ∧ OnlyFpu s t ∧ t.freg (rd &&& 0b11110#5) = w ∧
      t.freg (rd ||| 0b00001#5) = Memory.get s.mem k' ++ Memory.get s.mem (k' + 1) ++ Memory.get s.mem (k' + 2) ++
          Memory.get s.mem (k' + 3) ∧
      FregsKeptBut s t [rd &&& 0b11110#5, rd ||| 0b00001#5] ∧ t.fpu = { s.fpu with f := t.fpu.f })

/-- With the FPU ready and canonical memory, where the memory system answers the accesses at the aligned address: STF
stores f[rd], STDF the even and then the odd f register; every other byte of memory, every register and everything
else are unchanged. (40_load_store.md R240; 40_load_store.md R241) -/
def Obligations.FloatingStores : Prop :=
  ∀ (s : State) (rd rs1 : Reg) (src : Operand2) (k : Nat), Memory.wf s.mem = true → s.fpReady →
    let a := s.address rs1 src
    s.locate .write s.space a = some k →
    (a.toNat % 4 = 0 → StoresBytes s (exec (.stf rd rs1 src) s) k
      [(s.freg rd).extractLsb' 24 8, (s.freg rd).extractLsb' 16 8, (s.freg rd).extractLsb' 8 8, (s.freg
          rd).extractLsb' 0 8]) ∧
    (a.toNat % 8 = 0 → s.locate .write s.space (a + 4) ≠ none → StoresBytes s (exec (.stdf rd rs1 src) s) k
      [(s.freg (rd &&& 0b11110#5)).extractLsb' 24 8, (s.freg (rd &&& 0b11110#5)).extractLsb' 16 8,
       (s.freg (rd &&& 0b11110#5)).extractLsb' 8 8, (s.freg (rd &&& 0b11110#5)).extractLsb' 0 8,
       (s.freg (rd ||| 0b00001#5)).extractLsb' 24 8, (s.freg (rd ||| 0b00001#5)).extractLsb' 16 8,
       (s.freg (rd ||| 0b00001#5)).extractLsb' 8 8, (s.freg (rd ||| 0b00001#5)).extractLsb' 0 8])

/-- With the FPU ready, where the memory system answers the access at the aligned address: LDFSR completes with RD,
RP, TEM, AU, fcc, aexc and cexc from the word loaded, ftt and qne as they were and the reserved bits 21:17 and 12
reading 0 (R65), and no f register, register or byte of memory changes; with canonical memory STFSR stores the 32 bits
of the FSR, which are RD, RP, TEM, AU, five zero bits, ftt, qne, a zero bit, fcc, aexc and cexc from the top, and
every other byte of memory, every register and everything else are unchanged. (10_state.md R60; 10_state.md R65;
10_state.md R66; 10_state.md R67; 10_state.md R72; 40_load_store.md R223; 40_load_store.md R242) -/
def Obligations.FsrLoadAndStore : Prop :=
  ∀ (s : State) (rs1 : Reg) (src : Operand2) (k : Nat), s.fpReady →
    let a := s.address rs1 src
    a.toNat % 4 = 0 →
    (s.locate .read s.space a = some k →
      let w : Word :=
        Memory.get s.mem k ++ Memory.get s.mem (k + 1) ++ Memory.get s.mem (k + 2) ++ Memory.get s.mem (k + 3)
      ∃ t, exec (.ldfsr rs1 src) s = .next t ∧ Advanced s t ∧ RegsKept s t ∧ MemKept s t ∧ OnlyFpu s t ∧
        t.fpu = { s.fpu with fsr := t.fpu.fsr } ∧
        t.fpu.fsr = { rd := w.extractLsb' 30 2, rp := w.extractLsb' 28 2, tem := w.extractLsb' 23 5,
                      au := w.getLsbD 22, ftt := s.fpu.fsr.ftt, qne := s.fpu.fsr.qne, fcc := w.extractLsb' 10 2,
                      aexc := w.extractLsb' 5 5, cexc := w.extractLsb' 0 5 } ∧
        ∀ j, j = 12 ∨ (17 ≤ j ∧ j ≤ 21) → (fsrWord t.fpu.fsr).getLsbD j = false) ∧
    (Memory.wf s.mem = true → s.locate .write s.space a = some k →
      let r := s.fpu.fsr
      let w : Word := r.rd ++ r.rp ++ r.tem ++ BitVec.ofBool r.au ++ 0#5 ++ r.ftt ++ BitVec.ofBool r.qne ++ 0#1 ++
        r.fcc ++ r.aexc ++ r.cexc
      StoresBytes s (exec (.stfsr rs1 src) s) k
        [w.extractLsb' 24 8, w.extractLsb' 16 8, w.extractLsb' 8 8, w.extractLsb' 0 8])

/-- In supervisor mode with no delayed write in flight, EF = 1, an FPU present in exception mode and canonical memory,
at an address divisible by 8 where the memory system answers both accesses, STDFQ completes: the eight bytes hold the
address and then the instruction of the queue's front entry; the queue is what lay behind it; qne is 1 while entries
remain; with none left the FPU is in execute mode, else still in exception mode; ftt and the rest of the FSR, every f
register, every other byte of memory and everything else are unchanged. (40_load_store.md R243; 60_exceptions.md R544;
60_exceptions.md R545) -/
def Obligations.StoreFloatingQueue : Prop :=
  ∀ (s : State) (rs1 : Reg) (src : Operand2) (k : Nat) (e : FqEntry) (rest : List FqEntry), Memory.wf s.mem = true →
    s.quiet →
    s.psr.s = true → s.psr.ef = true → s.cfg.fpuPresent = true → s.fpu.mode = .exception → s.fpu.queue = e :: rest →
    let a := s.address rs1 src
    a.toNat % 8 = 0 → s.locate .write s.space a = some k → s.locate .write s.space (a + 4) ≠ none →
    ∃ t, exec (.stdfq rs1 src) s = .next t ∧ Advanced s t ∧ RegsKept s t ∧
      (Memory.word t.mem k = e.addr ∧ Memory.word t.mem (k + 4) = e.instr ∧ MemKeptBut s t k 8) ∧
      t.fpu = { s.fpu with queue := rest, mode := if rest = [] then .execute else .exception,
                           fsr := { s.fpu.fsr with qne := decide (rest ≠ []) } } ∧
      t.stale = s.noted [k + 4, k] ∧
      t = { s with pc := t.pc, npc := t.npc, prev := s.current, stale := t.stale, mem := t.mem, fpu := t.fpu }

/-- With ET = 1 and no delayed write in flight, where EF = 0 or no FPU is present, every floating-point load, store,
branch and FPop, of every form, at every address and in every mode (STDFQ in supervisor mode), and every word of FPop1
or FPop2 whose opf is not assigned, takes fp_disabled, tt = 4: no f register, no byte of memory and no other state
changes but by the trap's entry, which saves the instruction's PC. (60_exceptions.md R508) -/
def Obligations.FloatingDisabledTraps : Prop :=
  ∀ s : State, s.quiet → s.psr.et = true → (s.psr.ef = false ∨ s.cfg.fpuPresent = false) →
    (∀ i : Instr, (kindOf i).fp = true → (∀ rs1 src, i = .stdfq rs1 src → s.psr.s = true) → Traps s (exec i s) 4) ∧
    (∀ w : Word, decodeWord w = .error .unassignedFpop →
      Traps (s.executing kindFpop) (s.executeWord w) 4)

/-- With ET = 1, no delayed write in flight, the FPU enabled and present and in exception_pending mode, every
floating-point instruction, in every mode (STDFQ in supervisor mode), takes fp_exception, tt = 8, instead of
executing: the FPU goes to exception mode, qne says whether the queue holds entries, and the queue, ftt, the f
registers and memory are unchanged. That the exception comes before the address of a load or store is looked at is
decision D13 of the spec's file 92 (log entry 35, DESIGN CHOICE); that qne is 0 where the queue is empty is R542's own
inference (DEDUCED there). (60_exceptions.md R542; 40_load_store.md R202) -/
def Obligations.PendingFloatingExceptionTraps : Prop :=
  ∀ (s : State) (i : Instr), s.quiet → s.psr.et = true → s.psr.ef = true → s.cfg.fpuPresent = true →
    s.fpu.mode = .exceptionPending → (kindOf i).fp = true → (∀ rs1 src, i = .stdfq rs1 src → s.psr.s = true) →
    Traps { s with fpu := { s.fpu with mode := .exception, fsr := { s.fpu.fsr with qne := decide (s.fpu.queue ≠ []) }
        } }
      (exec i s) 8

/-- With no delayed write in flight, the FPU enabled and present and in exception mode, every FPop advances the IU,
sets ftt to 4 and puts the FPU in exception_pending mode; the queue, every f register, the rest of the FSR, memory and
everything else are unchanged. With no delayed write in flight, the FPU enabled, present, concurrent and in execute
mode, and room in the queue, every FPop advances the IU and appends itself with its address to the queue; no f
register, no field of the FSR, no r register and no byte of memory changes. With no delayed write in flight, the FPU
enabled and present and in exception mode, where the memory system answers the accesses at the aligned address: LDF,
LDDF and LDFSR are a sequence_error too, ftt 4 and exception_pending mode; each destination (for LDFSR the FSR but ftt
and qne) is as it was or loaded, freely (U7, log entry 23), and nothing else changes; STF, STDF and STFSR store f[rd],
the pair, and the FSR, as in execute mode, and the FPU stays in exception mode. (44_fpop_cpop.md R440; 44_fpop_cpop.md
R491; 44_fpop_cpop.md R435; 60_exceptions.md R543; 40_load_store.md R220) -/
def Obligations.FpopInOtherModes : Prop :=
  (∀ (s : State) (i : Instr) (fn : FpFn) (rd rs1 rs2 : Reg), FpopOf i fn rd rs1 rs2 → s.quiet → s.psr.ef = true →
    s.cfg.fpuPresent = true → s.fpu.mode = .exception →
    ∃ t, exec i s = .next t ∧ Advanced s t ∧ RegsKept s t ∧ MemKept s t ∧ OnlyFpu s t ∧
      t.fpu = { s.fpu with mode := .exceptionPending, fsr := { s.fpu.fsr with ftt := 4 } }) ∧
  (∀ (s : State) (i : Instr) (fn : FpFn) (rd rs1 rs2 : Reg), FpopOf i fn rd rs1 rs2 → s.quiet → s.psr.ef = true →
    s.cfg.fpuPresent = true → s.cfg.fpuConcurrent = true → s.fpu.mode = .execute → s.fpu.queue.length < queueDepth
        s.cfg →
    ∃ t, exec i s = .next t ∧ Advanced s t ∧ RegsKept s t ∧ MemKept s t ∧ OnlyFpu s t ∧
      t.fpu = { s.fpu with queue := s.fpu.queue ++ [⟨s.pc, encode i, fn, rd, rs1, rs2⟩] }) ∧
  (∀ (s : State) (rd rs1 : Reg) (src : Operand2) (k : Nat), s.quiet → s.psr.ef = true → s.cfg.fpuPresent = true →
    s.fpu.mode = .exception →
    let a := s.address rs1 src
    let high : Reg := rd &&& 0b11110#5
    let low : Reg := rd ||| 0b00001#5
    (s.locate .read s.space a = some k →
      (a.toNat % 4 = 0 → ∃ t, exec (.ldf rd rs1 src) s = .next t ∧ Advanced s t ∧ RegsKept s t ∧ MemKept s t ∧ OnlyFpu s t ∧
        (t.freg rd = s.freg rd ∨ t.freg rd = Memory.word s.mem k) ∧ FregsKeptBut s t [rd] ∧
        t.fpu = { s.fpu with mode := .exceptionPending, fsr := { s.fpu.fsr with ftt := 4 }, f := t.fpu.f }) ∧
      (∀ k', a.toNat % 8 = 0 → s.locate .read s.space (a + 4) = some k' →
        ∃ t, exec (.lddf rd rs1 src) s = .next t ∧ Advanced s t ∧ RegsKept s t ∧ MemKept s t ∧ OnlyFpu s t ∧
          (t.freg high = s.freg high ∨ t.freg high = Memory.word s.mem k) ∧
          (t.freg low = s.freg low ∨ t.freg low = Memory.word s.mem k') ∧ FregsKeptBut s t [high, low] ∧
          t.fpu = { s.fpu with mode := .exceptionPending, fsr := { s.fpu.fsr with ftt := 4 }, f := t.fpu.f }) ∧
      (a.toNat % 4 = 0 → ∃ t, exec (.ldfsr rs1 src) s = .next t ∧ Advanced s t ∧ RegsKept s t ∧ MemKept s t ∧ OnlyFpu s t ∧
        ∃ r, (r = s.fpu.fsr ∨ r = fsrLoad s.fpu.fsr (Memory.word s.mem k)) ∧
          t.fpu = { s.fpu with mode := .exceptionPending, fsr := { r with ftt := 4 } })) ∧
    (Memory.wf s.mem = true → s.locate .write s.space a = some k →
      let bytes (w : Word) : List Byte :=
        [w.extractLsb' 24 8, w.extractLsb' 16 8, w.extractLsb' 8 8, w.extractLsb' 0 8]
      (a.toNat % 4 = 0 → StoresBytes s (exec (.stf rd rs1 src) s) k (bytes (s.freg rd))) ∧
      (a.toNat % 8 = 0 → s.locate .write s.space (a + 4) ≠ none →
        StoresBytes s (exec (.stdf rd rs1 src) s) k (bytes (s.freg high) ++ bytes (s.freg low))) ∧
      (a.toNat % 4 = 0 → StoresBytes s (exec (.stfsr rs1 src) s) k (bytes (fsrWord s.fpu.fsr)))))

/-- With the FPU ready and sequential, an FPop that this FPU implements and finishes completes, where none of the
exceptions it generated is enabled in TEM: its result is in f[rd], the pair, the quadruple or fcc and nowhere else;
but for the three moves cexc holds its exceptions, aexc has accrued them and ftt is 0 (D12 of the spec's file 92, log
entry 21, DESIGN CHOICE; bits that an FPU does not implement are kept: log entry 20, DEDUCED from R63); for the moves
ftt is as it was, as R494 says, or 0, as D12 says (log entry 21), and the rest of the FSR as it was; the queue is
empty and the FPU in execute mode; no r register, byte of memory or other state changes. (44_fpop_cpop.md R436;
44_fpop_cpop.md R447; 44_fpop_cpop.md R450 to R486; 44_fpop_cpop.md R491; 44_fpop_cpop.md R494; 10_state.md R63) -/
def Obligations.FpopCompletes : Prop :=
  ∀ (s : State) (i : Instr) (fn : FpFn) (rd rs1 rs2 : Reg), FpopOf i fn rd rs1 rs2 → s.fpReady → s.cfg.fpuConcurrent =
    false →
    ∃ ans, fpAnswer fn s rs1 rs2 = some ans ∧
      (Finishes s.cfg fn ans → ans.texc &&& s.fpu.fsr.tem &&& (s.cfg.temBits ||| 1) = 0 →
        ∃ t, exec i s = .next t ∧ Advanced s t ∧ RegsKept s t ∧ MemKept s t ∧ OnlyFpu s t ∧
          t.fpu.queue = [] ∧ t.fpu.mode = .execute ∧ ResultWritten s t rd ans.result ∧ FsrControlKept s t ∧
          ((∀ w, ans.result ≠ .move w) → t.fpu.fsr.ftt = 0 ∧
            t.fpu.fsr.aexc = s.fpu.fsr.aexc ||| (ans.texc &&& (s.cfg.aexcBits ||| 1)) ∧
            t.fpu.fsr.cexc = (ans.texc &&& (s.cfg.cexcBits ||| 1)) ||| (s.fpu.fsr.cexc &&& ~~~(s.cfg.cexcBits |||
                1))))

/-- With the FPU ready and sequential, an FPop that this FPU does not implement stops with ftt 3, one it cannot finish
on its operands with ftt 2, and one, not a move, with an exception enabled in TEM with ftt 1 and cexc its exceptions
(only bits of TEM and cexc that the FPU implements count, the other bits of cexc are kept: log entry 20, DEDUCED from
R63): the IU advances, the FPop with its address is at the front of the queue, the FPU is in exception_pending mode,
and no f register, fcc or aexc, no r register and no byte of memory changes. (44_fpop_cpop.md R437; 44_fpop_cpop.md
R438; 44_fpop_cpop.md R439; 44_fpop_cpop.md R447; 60_exceptions.md R541; 10_state.md R63) -/
def Obligations.FpopStops : Prop :=
  ∀ (s : State) (i : Instr) (fn : FpFn) (rd rs1 rs2 : Reg) (ans : FpAnswer), FpopOf i fn rd rs1 rs2 → s.fpReady →
    s.cfg.fpuConcurrent = false → fpAnswer fn s rs1 rs2 = some ans →
    ∃ t, exec i s = .next t ∧ Advanced s t ∧ RegsKept s t ∧ MemKept s t ∧ OnlyFpu s t ∧
      (fn ∈ s.cfg.unimplemented → FpStopped s t 3 ⟨s.pc, encode i, fn, rd, rs1, rs2⟩) ∧
      (fn ∉ s.cfg.unimplemented → (fn, ans.a, ans.b) ∈ s.cfg.unfinished →
        FpStopped s t 2 ⟨s.pc, encode i, fn, rd, rs1, rs2⟩) ∧
      (Finishes s.cfg fn ans → (∀ w, ans.result ≠ .move w) → ans.texc &&& s.fpu.fsr.tem &&& (s.cfg.temBits ||| 1) ≠ 0
          →
        FpStopped s t 1 ⟨s.pc, encode i, fn, rd, rs1, rs2⟩ ∧
        t.fpu.fsr.cexc = (ans.texc &&& (s.cfg.cexcBits ||| 1)) ||| (s.fpu.fsr.cexc &&& ~~~(s.cfg.cexcBits ||| 1)))

/-- Whatever the operand's bits, the answer of FMOVs is f[rs2], that of FNEGs differs from it in bit 31 alone, and
that of FABSs has bit 31 clear and the other bits of f[rs2]; none of them generates an exception. (44_fpop_cpop.md
R494) -/
def Obligations.MovesAreBitOperations : Prop :=
  ∀ (s : State) (rs1 rs2 : Reg) (a : FpAnswer),
    (fpAnswer .fmovs s rs1 rs2 = some a → a.texc = 0 ∧ a.result = .move (s.freg rs2)) ∧
    (fpAnswer .fnegs s rs1 rs2 = some a → a.texc = 0 ∧
      ∃ w, a.result = .move w ∧ ∀ j < 32, w.getLsbD j = ((s.freg rs2).getLsbD j != decide (j = 31))) ∧
    (fpAnswer .fabss s rs1 rs2 = some a → a.texc = 0 ∧
      ∃ w, a.result = .move w ∧ ∀ j < 32, w.getLsbD j = ((s.freg rs2).getLsbD j && decide (j ≠ 31)))

/-- A comparison gives 3 exactly where an operand is a NaN. Of two finite numbers it gives 0 where their values are
equal, 1 where the first is less, 2 where it is greater; minus infinity is less, and plus infinity greater, than
everything but itself and a NaN. Swapping the operands swaps less and greater and keeps equal. The equality of the two
zeros is from the standard (log entry 15, PRESUMED). With AU = 0, FCMPs and FCMPEs, FCMPd and FCMPEd, FCMPx and FCMPEx
(the last two for operands that are extended numbers of the architecture, R444) answer with the condition of their
operands; FCMP generates the invalid exception exactly where an operand is a signaling NaN, FCMPE exactly where one is
a NaN, and neither any other exception. (44_fpop_cpop.md R498; 10_state.md R68) -/
def Obligations.Comparison : Prop :=
  (∀ x y : FpNum, (conditionOf x y = 3 ↔ isNan x = true ∨ isNan y = true) ∧
    (conditionOf x y = 1 ↔ conditionOf y x = 2) ∧ (conditionOf x y = 0 ↔ conditionOf y x = 0) ∧
    ∀ p q, conditionOf (.zero p) (.zero q) = 0) ∧
  (∀ x y : FpNum, x.isNumber → y.isNumber →
    (conditionOf x y = 0 ↔ x.value = y.value) ∧ (conditionOf x y = 1 ↔ x.value < y.value) ∧
    (conditionOf x y = 2 ↔ y.value < x.value)) ∧
  (∀ y : FpNum, isNan y = false →
    (conditionOf (.inf true) y = if y = .inf true then 0 else 1) ∧
    (conditionOf (.inf false) y = if y = .inf false then 0 else 2)) ∧
  (∀ (s : State) (rs1 rs2 : Reg), s.fpu.fsr.au = false →
    ∀ c ∈ [(Dest.single, FpFn.fcmps, FpFn.fcmpes), (.double, .fcmpd, .fcmped), (.extended, .fcmpx, .fcmpex)],
      let x := s.operandNum c.1 rs1
      let y := s.operandNum c.1 rs2
      x ≠ .unnormal → y ≠ .unnormal →
      (∃ a, fpAnswer c.2.1 s rs1 rs2 = some a ∧ a.result = .fcc (conditionOf x y) ∧
        a.texc = if isSignaling x || isSignaling y then 0b10000#5 else 0) ∧
      (∃ a, fpAnswer c.2.2 s rs1 rs2 = some a ∧ a.result = .fcc (conditionOf x y) ∧
        a.texc = if isNan x || isNan y then 0b10000#5 else 0))

/-- Rounding a magnitude to a multiple of two to the n gives: toward nearest, a multiple at distance at most half a
unit, the even one in a tie; toward zero, the multiple at or below the magnitude; toward an infinity, at or above it
for the sign that points there and at or below it for the other; always less than a unit away; inexact exactly where
the magnitude is no multiple. (RD: 0 nearest, 1 toward 0, 2 toward plus infinity, 3 toward minus infinity.)
(10_state.md R61; 44_fpop_cpop.md R449) -/
def Obligations.RoundingDirections : Prop :=
  ∀ (rd : BitVec 2) (neg : Bool) (m n : Nat),
    let q := (roundShift rd neg m n).1
    (rd = 0 → 2 * (q * 2 ^ n) ≤ 2 * m + 2 ^ n ∧ 2 * m ≤ 2 * (q * 2 ^ n) + 2 ^ n ∧
      (2 * m = 2 * (q * 2 ^ n) + 2 ^ n ∨ 2 * (q * 2 ^ n) = 2 * m + 2 ^ n → n ≠ 0 → q % 2 = 0)) ∧
    (rd = 1 ∨ (rd = 2 ∧ neg = true) ∨ (rd = 3 ∧ neg = false) → q * 2 ^ n ≤ m ∧ m < q * 2 ^ n + 2 ^ n) ∧
    ((rd = 2 ∧ neg = false) ∨ (rd = 3 ∧ neg = true) → m ≤ q * 2 ^ n ∧ q * 2 ^ n < m + 2 ^ n) ∧
    ((roundShift rd neg m n).2 = true ↔ m % 2 ^ n ≠ 0)

/-- Whatever the rounding direction, the answer of FiTOd is a double whose value is the signed integer in f[rs2], and
it generates no exception. (44_fpop_cpop.md R451; 10_state.md R61) -/
def Obligations.IntegerToDoubleIsExact : Prop :=
  ∀ (s : State) (rs1 rs2 : Reg), ∃ a d, fpAnswer .fitod s rs1 rs2 = some a ∧ a.texc = 0 ∧ a.result = .double d ∧
    (unpackDouble d).value = ((s.freg rs2).toInt : ℚ)

/-- The conversion of a finite number to an integer, where it answers, answers the integer at or below the magnitude,
with the number's sign, and says it lost something exactly where the number was no integer; it does not answer exactly
where that integer does not fit 32 signed bits, nor for an infinity or a NaN; a zero gives 0. With AU = 0, FsTOi,
FdTOi and FxTOi (the last for extended numbers of the architecture) deliver that integer, with the inexact exception
alone exactly where something was lost and no other; where there is none they generate the invalid exception alone.
(44_fpop_cpop.md R492; 44_fpop_cpop.md R453 to R455) -/
def Obligations.TruncationTowardZero : Prop :=
  (∀ (neg : Bool) (m : Nat) (e : Int), m ≠ 0 →
    let x : ℚ := (m : ℚ) * (2 : ℚ) ^ e
    let v : Int := if neg then -⌊x⌋ else ⌊x⌋
    (truncated (.finite neg m e) = none ↔ v < -2 ^ 31 ∨ 2 ^ 31 ≤ v) ∧
    ∀ w lost, truncated (.finite neg m e) = some (w, lost) → w.toInt = v ∧ (lost = true ↔ (⌊x⌋ : ℚ) ≠ x)) ∧
  (∀ (s : State) (rs1 rs2 : Reg), s.fpu.fsr.au = false →
    ∀ c ∈ [(Dest.single, FpFn.fstoi), (.double, .fdtoi), (.extended, .fxtoi)],
      let x := s.operandNum c.1 rs2
      x ≠ .unnormal →
      ∃ a w, fpAnswer c.2 s rs1 rs2 = some a ∧ a.result = .single w ∧
        (∀ v lost, truncated x = some (v, lost) → w = v ∧ a.texc = if lost then 0b00001#5 else 0) ∧
        (truncated x = none → a.texc = 0b10000#5)) ∧
  (∀ p, truncated (.zero p) = some (0, false)) ∧ ∀ x, isNan x = true ∨ (∃ p, x = .inf p) → truncated x = none

/-- With the coprocessor ready, where the memory system answers the accesses at the aligned address, LDC completes
with c[rd] the word at the address, LDDC with the even and odd coprocessor register the two words, LDCSR with the CSR
the word; the rest of the coprocessor is what it makes of being loaded, no register of it but those, no r register and
no byte of memory changes. With the coprocessor ready, CPop1 and CPop2 complete: the coprocessor is what its own
operation makes of the instruction word and its address, and no r register, byte of memory or other state changes.
(40_load_store.md R225; 40_load_store.md R226; 40_load_store.md R227; 44_fpop_cpop.md R480; 44_fpop_cpop.md R488;
44_fpop_cpop.md R489) -/
def Obligations.CoprocessorLoadsAndOperates : Prop :=
  (∀ (s : State) (rd rs1 : Reg) (src : Operand2) (k : Nat), s.cpReady →
    let a := s.address rs1 src
    let w : Word := Memory.get s.mem k ++ Memory.get s.mem (k + 1) ++ Memory.get s.mem (k + 2) ++ Memory.get s.mem (k
        + 3)
    s.locate .read s.space a = some k →
    (a.toNat % 4 = 0 → ∃ t, exec (.ldc rd rs1 src) s = .next t ∧ Advanced s t ∧ RegsKept s t ∧ MemKept s t ∧ OnlyCp s
        t ∧
      t.creg rd = w ∧ (∀ n, n ≠ rd → t.creg n = s.creg n) ∧ t.cp = { s.cp with c := t.cp.c, hidden := Config.cpLoaded { s.cp with c := t.cp.c } }) ∧
    (∀ k', a.toNat % 8 = 0 → s.locate .read s.space (a + 4) = some k' → ∃ t, exec (.lddc rd rs1 src) s = .next t ∧
      Advanced s t ∧ RegsKept s t ∧ MemKept s t ∧ OnlyCp s t ∧ t.creg (rd &&& 0b11110#5) = w ∧
      t.creg (rd ||| 0b00001#5) = Memory.get s.mem k' ++ Memory.get s.mem (k' + 1) ++ Memory.get s.mem (k' + 2) ++
          Memory.get s.mem (k' + 3) ∧
      (∀ n, n ≠ rd &&& 0b11110#5 → n ≠ rd ||| 0b00001#5 → t.creg n = s.creg n) ∧ t.cp = { s.cp with c := t.cp.c, hidden := Config.cpLoaded { s.cp with c := t.cp.c } }) ∧
    (a.toNat % 4 = 0 → ∃ t, exec (.ldcsr rs1 src) s = .next t ∧ Advanced s t ∧ RegsKept s t ∧ MemKept s t ∧ OnlyCp s
        t ∧ t.cp = { s.cp with csr := w, hidden := Config.cpLoaded { s.cp with csr := w } })) ∧
  (∀ (s : State) (rd rs1 rs2 : Reg) (opc : BitVec 9), s.cpReady →
    ∀ i ∈ [Instr.cpop1 rd rs1 opc rs2, Instr.cpop2 rd rs1 opc rs2],
      ∃ t, exec i s = .next t ∧ Advanced s t ∧ RegsKept s t ∧ MemKept s t ∧ OnlyCp s t ∧ t.cp = Config.cpExecute s.cp
          (encode i) s.pc)

/-- With the coprocessor ready and canonical memory, where the memory system answers the accesses at the aligned
address, STC stores c[rd], STDC the even and then the odd coprocessor register, STCSR the CSR, and, in supervisor
mode, STDCQ the address and then the instruction word of the coprocessor queue's front entry, after which the
coprocessor is in a state of its own; after STC, STDC and STCSR the rest of the coprocessor is what it makes of being
stored, its registers as they were; every other byte of memory, every register and everything else are unchanged.
(40_load_store.md R245; 40_load_store.md R246; 40_load_store.md R247; 40_load_store.md R248) -/
def Obligations.CoprocessorStores : Prop :=
  ∀ (s : State) (rd rs1 : Reg) (src : Operand2) (k : Nat), Memory.wf s.mem = true → s.cpReady →
    let a := s.address rs1 src
    s.locate .write s.space a = some k →
    let after := { s with cp := { s.cp with hidden := Config.cpStored s.cp } }
    (a.toNat % 4 = 0 → StoresBytes after (exec (.stc rd rs1 src) s) k
      [(s.creg rd).extractLsb' 24 8, (s.creg rd).extractLsb' 16 8, (s.creg rd).extractLsb' 8 8, (s.creg
          rd).extractLsb' 0 8]) ∧
    (a.toNat % 4 = 0 → StoresBytes after (exec (.stcsr rs1 src) s) k
      [(s.cp.csr).extractLsb' 24 8, (s.cp.csr).extractLsb' 16 8, (s.cp.csr).extractLsb' 8 8, (s.cp.csr).extractLsb' 0
          8]) ∧
    (a.toNat % 8 = 0 → s.locate .write s.space (a + 4) ≠ none → StoresBytes after (exec (.stdc rd rs1 src) s) k
      [(s.creg (rd &&& 0b11110#5)).extractLsb' 24 8, (s.creg (rd &&& 0b11110#5)).extractLsb' 16 8,
       (s.creg (rd &&& 0b11110#5)).extractLsb' 8 8, (s.creg (rd &&& 0b11110#5)).extractLsb' 0 8,
       (s.creg (rd ||| 0b00001#5)).extractLsb' 24 8, (s.creg (rd ||| 0b00001#5)).extractLsb' 16 8,
       (s.creg (rd ||| 0b00001#5)).extractLsb' 8 8, (s.creg (rd ||| 0b00001#5)).extractLsb' 0 8]) ∧
    (a.toNat % 8 = 0 → s.locate .write s.space (a + 4) ≠ none → s.psr.s = true →
      ∃ t, exec (.stdcq rs1 src) s = .next t ∧ Advanced s t ∧ RegsKept s t ∧ t.cp = Config.cpStoredQueue s.cp ∧
        Memory.word t.mem k = s.cp.cqAddr ∧ Memory.word t.mem (k + 4) = s.cp.cqInstr ∧ MemKeptBut s t k 8 ∧
        t.stale = s.noted [k + 4, k] ∧
        t = { s with pc := t.pc, npc := t.npc, prev := s.current, stale := t.stale, mem := t.mem, cp := t.cp })

/-- With ET = 1 and no delayed write in flight, every coprocessor load, store, branch and CPop, in every mode (STDCQ
in supervisor mode), takes cp_disabled, tt = 36, where EC = 0 or no coprocessor is present; where it is enabled,
present and has an exception pending it takes cp_exception, tt = 40, and the coprocessor is then in exception mode. No
byte of memory changes. (60_exceptions.md R509; 60_exceptions.md R548; 44_fpop_cpop.md R480) -/
def Obligations.CoprocessorDisabledTraps : Prop :=
  ∀ (s : State) (i : Instr), s.quiet → s.psr.et = true → (kindOf i).cp = true →
    (∀ rs1 src, i = .stdcq rs1 src → s.psr.s = true) →
    (s.psr.ec = false ∨ s.cfg.cpPresent = false → Traps s (exec i s) 36) ∧
    (s.psr.ec = true → s.cfg.cpPresent = true → s.cpPending = true →
      Traps { s with cp := { s.cp with mode := .exception } } (exec i s) 40)

/-- With AU = 0 and RP = 0, each of FADD, FSUB, FMUL and FDIV in the three precisions, for two operands that are
finite numbers (the divisor not zero), each FSQRT for a finite number not below zero, each format conversion of a
finite number and FiTOs, FiTOd, FiTOx for every integer: where the exact result x is not larger than the largest
number of the destination's format, or is larger but its rounding in the direction RD is not, the answer is a finite
number of that format, the rounding of x in the direction RD (toward nearest, the even one in a tie), with the inexact
exception exactly where it differs from x, the underflow exception exactly where besides x is tiny, smaller than the
smallest normalized number (before or after rounding as the implementation has it: U17, log entry 17, DEDUCED), and no
invalid operation, overflow or division by zero. Where for FADD, FSUB, FMUL, FDIV or a format conversion the rounding
of x is larger than the largest number, it is an overflow, with the overflow and the inexact exception alone: the
infinity of its sign, or, where RD points away from that infinity, the largest number of its sign (log entry 15,
PRESUMED). A finite number other than zero divided by zero gives an infinity with the exclusive or of the signs and
the division-by-zero exception alone. Infinity minus infinity, zero times infinity, zero by zero, infinity by infinity
and the square root of a finite number below zero give a NaN and the invalid exception alone. The results are those of
the standard that R431 names (log entry 15, PRESUMED; log entry 17, DEDUCED). (44_fpop_cpop.md R431; 44_fpop_cpop.md
R448; 44_fpop_cpop.md R449; 44_fpop_cpop.md R456 to R461; 44_fpop_cpop.md R465 to R467; 44_fpop_cpop.md R468 to R479;
44_fpop_cpop.md R490; 44_fpop_cpop.md R495 to R497; 10_state.md R61; 10_state.md R70) -/
def Obligations.ArithmeticIsCorrectlyRounded : Prop :=
  ∀ (s : State) (rs1 rs2 : Reg), s.fpu.fsr.au = false → s.fpu.fsr.rp = 0 →
    (∀ c ∈ [(FpFn.fadds, Dest.single, fun x y : ℝ => x + y), (.faddd, .double, fun x y => x + y),
        (.faddx, .extended, fun x y => x + y), (.fsubs, .single, fun x y => x - y), (.fsubd, .double, fun x y => x - y),
        (.fsubx, .extended, fun x y => x - y), (.fmuls, .single, fun x y => x * y), (.fmuld, .double, fun x y => x * y),
        (.fmulx, .extended, fun x y => x * y)],
      let a := s.operandNum c.2.1 rs1
      let b := s.operandNum c.2.1 rs2
      let x := c.2.2 (a.value : ℝ) (b.value : ℝ)
      a.isNumber → b.isNumber → DeliveredAnswer s c.1 rs1 rs2 c.2.1 x) ∧
    (∀ c ∈ [(FpFn.fdivs, Dest.single), (.fdivd, .double), (.fdivx, .extended)],
      let a := s.operandNum c.2 rs1
      let b := s.operandNum c.2 rs2
      a.isNumber → b.isNumber →
      (b.value ≠ 0 → DeliveredAnswer s c.1 rs1 rs2 c.2 ((a.value : ℝ) / (b.value : ℝ))) ∧
      (∀ p q m e, a = .finite p m e → b = .zero q →
        ∃ r, fpAnswer c.1 s rs1 rs2 = some r ∧ r.result.num c.2 = some (.inf (p != q)) ∧ r.texc = 0b00010#5)) ∧
    (∀ c ∈ [(FpFn.fsqrts, Dest.single), (.fsqrtd, .double), (.fsqrtx, .extended)],
      let a := s.operandNum c.2 rs2
      a.isNumber → (0 ≤ a.value → RoundedAnswer s c.1 rs1 rs2 c.2 (Real.sqrt (a.value : ℝ))) ∧
        (a.value < 0 → InvalidAnswer s c.1 rs1 rs2 c.2)) ∧
    (∀ c ∈ [(FpFn.fstod, Dest.single, Dest.double), (.fstox, .single, .extended), (.fdtos, .double, .single),
        (.fdtox, .double, .extended), (.fxtos, .extended, .single), (.fxtod, .extended, .double)],
      let a := s.operandNum c.2.1 rs2
      a.isNumber → DeliveredAnswer s c.1 rs1 rs2 c.2.2 (a.value : ℝ)) ∧
    (∀ c ∈ [(FpFn.fitos, Dest.single), (.fitod, .double), (.fitox, .extended)],
      RoundedAnswer s c.1 rs1 rs2 c.2 (((s.freg rs2).toInt : ℤ) : ℝ)) ∧
    (∀ c ∈ [(Dest.single, FpFn.fadds, FpFn.fsubs, FpFn.fmuls, FpFn.fdivs), (.double, .faddd, .fsubd, .fmuld, .fdivd),
        (.extended, .faddx, .fsubx, .fmulx, .fdivx)],
      let a := s.operandNum c.1 rs1
      let b := s.operandNum c.1 rs2
      (∀ p, a = .inf p → b = .inf (!p) → InvalidAnswer s c.2.1 rs1 rs2 c.1) ∧
      (∀ p, a = .inf p → b = .inf p → InvalidAnswer s c.2.2.1 rs1 rs2 c.1) ∧
      (∀ p q, (a = .inf p ∧ b = .zero q) ∨ (a = .zero p ∧ b = .inf q) → InvalidAnswer s c.2.2.2.1 rs1 rs2 c.1) ∧
      (∀ p q, (a = .inf p ∧ b = .inf q) ∨ (a = .zero p ∧ b = .zero q) → InvalidAnswer s c.2.2.2.2 rs1 rs2 c.1))
end

