-- ==== Sys2Proof/Laws/State.lean ====
section
/-! SUPPORT. One lemma per field for each update of the state, so that no proof unfolds a record update. The updates that write one
group of fields come first; the longer ones (a trap's entry, a reset) are stated through them. -/

namespace Sys2Proof.Machine

/-! #### setPcs -/

@[simp] theorem State.setPcs_cfg (s : State) (pc npc : Word) : (s.setPcs pc npc).cfg = s.cfg := rfl
@[simp] theorem State.setPcs_globals (s : State) (pc npc : Word) : (s.setPcs pc npc).globals = s.globals := rfl
@[simp] theorem State.setPcs_windows (s : State) (pc npc : Word) : (s.setPcs pc npc).windows = s.windows := rfl
@[simp] theorem State.setPcs_pc (s : State) (pc npc : Word) : (s.setPcs pc npc).pc = pc := rfl
@[simp] theorem State.setPcs_npc (s : State) (pc npc : Word) : (s.setPcs pc npc).npc = npc := rfl
@[simp] theorem State.setPcs_annul (s : State) (pc npc : Word) : (s.setPcs pc npc).annul = s.annul := rfl
@[simp] theorem State.setPcs_psr (s : State) (pc npc : Word) : (s.setPcs pc npc).psr = s.psr := rfl
@[simp] theorem State.setPcs_wim (s : State) (pc npc : Word) : (s.setPcs pc npc).wim = s.wim := rfl
@[simp] theorem State.setPcs_tba (s : State) (pc npc : Word) : (s.setPcs pc npc).tba = s.tba := rfl
@[simp] theorem State.setPcs_tt (s : State) (pc npc : Word) : (s.setPcs pc npc).tt = s.tt := rfl
@[simp] theorem State.setPcs_y (s : State) (pc npc : Word) : (s.setPcs pc npc).y = s.y := rfl
@[simp] theorem State.setPcs_fpu (s : State) (pc npc : Word) : (s.setPcs pc npc).fpu = s.fpu := rfl
@[simp] theorem State.setPcs_cp (s : State) (pc npc : Word) : (s.setPcs pc npc).cp = s.cp := rfl
@[simp] theorem State.setPcs_iu (s : State) (pc npc : Word) : (s.setPcs pc npc).iu = s.iu := rfl
@[simp] theorem State.setPcs_pbError (s : State) (pc npc : Word) : (s.setPcs pc npc).pbError = s.pbError := rfl
@[simp] theorem State.setPcs_inputs (s : State) (pc npc : Word) : (s.setPcs pc npc).inputs = s.inputs := rfl
@[simp] theorem State.setPcs_coming (s : State) (pc npc : Word) : (s.setPcs pc npc).coming = s.coming := rfl
@[simp] theorem State.setPcs_env (s : State) (pc npc : Word) : (s.setPcs pc npc).env = s.env := rfl
@[simp] theorem State.setPcs_mem (s : State) (pc npc : Word) : (s.setPcs pc npc).mem = s.mem := rfl
@[simp] theorem State.setPcs_flight (s : State) (pc npc : Word) : (s.setPcs pc npc).flight = s.flight := rfl
@[simp] theorem State.setPcs_stale (s : State) (pc npc : Word) : (s.setPcs pc npc).stale = s.stale := rfl
@[simp] theorem State.setPcs_prev (s : State) (pc npc : Word) : (s.setPcs pc npc).prev = s.prev := rfl
@[simp] theorem State.setPcs_current (s : State) (pc npc : Word) : (s.setPcs pc npc).current = s.current := rfl
@[simp] theorem State.setPcs_fetchOpen (s : State) (pc npc : Word) : (s.setPcs pc npc).fetchOpen = s.fetchOpen := rfl
@[simp] theorem State.setPcs_fpuSteps (s : State) (pc npc : Word) : (s.setPcs pc npc).fpuSteps = s.fpuSteps := rfl
@[simp] theorem State.setPcs_tick (s : State) (pc npc : Word) : (s.setPcs pc npc).tick = s.tick := rfl

/-! #### setAnnul -/

@[simp] theorem State.setAnnul_cfg (s : State) (b : Bool) : (s.setAnnul b).cfg = s.cfg := rfl
@[simp] theorem State.setAnnul_globals (s : State) (b : Bool) : (s.setAnnul b).globals = s.globals := rfl
@[simp] theorem State.setAnnul_windows (s : State) (b : Bool) : (s.setAnnul b).windows = s.windows := rfl
@[simp] theorem State.setAnnul_pc (s : State) (b : Bool) : (s.setAnnul b).pc = s.pc := rfl
@[simp] theorem State.setAnnul_npc (s : State) (b : Bool) : (s.setAnnul b).npc = s.npc := rfl
@[simp] theorem State.setAnnul_annul (s : State) (b : Bool) : (s.setAnnul b).annul = b := rfl
@[simp] theorem State.setAnnul_psr (s : State) (b : Bool) : (s.setAnnul b).psr = s.psr := rfl
@[simp] theorem State.setAnnul_wim (s : State) (b : Bool) : (s.setAnnul b).wim = s.wim := rfl
@[simp] theorem State.setAnnul_tba (s : State) (b : Bool) : (s.setAnnul b).tba = s.tba := rfl
@[simp] theorem State.setAnnul_tt (s : State) (b : Bool) : (s.setAnnul b).tt = s.tt := rfl
@[simp] theorem State.setAnnul_y (s : State) (b : Bool) : (s.setAnnul b).y = s.y := rfl
@[simp] theorem State.setAnnul_fpu (s : State) (b : Bool) : (s.setAnnul b).fpu = s.fpu := rfl
@[simp] theorem State.setAnnul_cp (s : State) (b : Bool) : (s.setAnnul b).cp = s.cp := rfl
@[simp] theorem State.setAnnul_iu (s : State) (b : Bool) : (s.setAnnul b).iu = s.iu := rfl
@[simp] theorem State.setAnnul_pbError (s : State) (b : Bool) : (s.setAnnul b).pbError = s.pbError := rfl
@[simp] theorem State.setAnnul_inputs (s : State) (b : Bool) : (s.setAnnul b).inputs = s.inputs := rfl
@[simp] theorem State.setAnnul_coming (s : State) (b : Bool) : (s.setAnnul b).coming = s.coming := rfl
@[simp] theorem State.setAnnul_env (s : State) (b : Bool) : (s.setAnnul b).env = s.env := rfl
@[simp] theorem State.setAnnul_mem (s : State) (b : Bool) : (s.setAnnul b).mem = s.mem := rfl
@[simp] theorem State.setAnnul_flight (s : State) (b : Bool) : (s.setAnnul b).flight = s.flight := rfl
@[simp] theorem State.setAnnul_stale (s : State) (b : Bool) : (s.setAnnul b).stale = s.stale := rfl
@[simp] theorem State.setAnnul_prev (s : State) (b : Bool) : (s.setAnnul b).prev = s.prev := rfl
@[simp] theorem State.setAnnul_current (s : State) (b : Bool) : (s.setAnnul b).current = s.current := rfl
@[simp] theorem State.setAnnul_fetchOpen (s : State) (b : Bool) : (s.setAnnul b).fetchOpen = s.fetchOpen := rfl
@[simp] theorem State.setAnnul_fpuSteps (s : State) (b : Bool) : (s.setAnnul b).fpuSteps = s.fpuSteps := rfl
@[simp] theorem State.setAnnul_tick (s : State) (b : Bool) : (s.setAnnul b).tick = s.tick := rfl

/-! #### setTt -/

@[simp] theorem State.setTt_cfg (s : State) (t : BitVec 8) : (s.setTt t).cfg = s.cfg := rfl
@[simp] theorem State.setTt_globals (s : State) (t : BitVec 8) : (s.setTt t).globals = s.globals := rfl
@[simp] theorem State.setTt_windows (s : State) (t : BitVec 8) : (s.setTt t).windows = s.windows := rfl
@[simp] theorem State.setTt_pc (s : State) (t : BitVec 8) : (s.setTt t).pc = s.pc := rfl
@[simp] theorem State.setTt_npc (s : State) (t : BitVec 8) : (s.setTt t).npc = s.npc := rfl
@[simp] theorem State.setTt_annul (s : State) (t : BitVec 8) : (s.setTt t).annul = s.annul := rfl
@[simp] theorem State.setTt_psr (s : State) (t : BitVec 8) : (s.setTt t).psr = s.psr := rfl
@[simp] theorem State.setTt_wim (s : State) (t : BitVec 8) : (s.setTt t).wim = s.wim := rfl
@[simp] theorem State.setTt_tba (s : State) (t : BitVec 8) : (s.setTt t).tba = s.tba := rfl
@[simp] theorem State.setTt_tt (s : State) (t : BitVec 8) : (s.setTt t).tt = t := rfl
@[simp] theorem State.setTt_y (s : State) (t : BitVec 8) : (s.setTt t).y = s.y := rfl
@[simp] theorem State.setTt_fpu (s : State) (t : BitVec 8) : (s.setTt t).fpu = s.fpu := rfl
@[simp] theorem State.setTt_cp (s : State) (t : BitVec 8) : (s.setTt t).cp = s.cp := rfl
@[simp] theorem State.setTt_iu (s : State) (t : BitVec 8) : (s.setTt t).iu = s.iu := rfl
@[simp] theorem State.setTt_pbError (s : State) (t : BitVec 8) : (s.setTt t).pbError = s.pbError := rfl
@[simp] theorem State.setTt_inputs (s : State) (t : BitVec 8) : (s.setTt t).inputs = s.inputs := rfl
@[simp] theorem State.setTt_coming (s : State) (t : BitVec 8) : (s.setTt t).coming = s.coming := rfl
@[simp] theorem State.setTt_env (s : State) (t : BitVec 8) : (s.setTt t).env = s.env := rfl
@[simp] theorem State.setTt_mem (s : State) (t : BitVec 8) : (s.setTt t).mem = s.mem := rfl
@[simp] theorem State.setTt_flight (s : State) (t : BitVec 8) : (s.setTt t).flight = s.flight := rfl
@[simp] theorem State.setTt_stale (s : State) (t : BitVec 8) : (s.setTt t).stale = s.stale := rfl
@[simp] theorem State.setTt_prev (s : State) (t : BitVec 8) : (s.setTt t).prev = s.prev := rfl
@[simp] theorem State.setTt_current (s : State) (t : BitVec 8) : (s.setTt t).current = s.current := rfl
@[simp] theorem State.setTt_fetchOpen (s : State) (t : BitVec 8) : (s.setTt t).fetchOpen = s.fetchOpen := rfl
@[simp] theorem State.setTt_fpuSteps (s : State) (t : BitVec 8) : (s.setTt t).fpuSteps = s.fpuSteps := rfl
@[simp] theorem State.setTt_tick (s : State) (t : BitVec 8) : (s.setTt t).tick = s.tick := rfl

/-! #### setCp -/

@[simp] theorem State.setCp_cfg (s : State) (c : CpState) : (s.setCp c).cfg = s.cfg := rfl
@[simp] theorem State.setCp_globals (s : State) (c : CpState) : (s.setCp c).globals = s.globals := rfl
@[simp] theorem State.setCp_windows (s : State) (c : CpState) : (s.setCp c).windows = s.windows := rfl
@[simp] theorem State.setCp_pc (s : State) (c : CpState) : (s.setCp c).pc = s.pc := rfl
@[simp] theorem State.setCp_npc (s : State) (c : CpState) : (s.setCp c).npc = s.npc := rfl
@[simp] theorem State.setCp_annul (s : State) (c : CpState) : (s.setCp c).annul = s.annul := rfl
@[simp] theorem State.setCp_psr (s : State) (c : CpState) : (s.setCp c).psr = s.psr := rfl
@[simp] theorem State.setCp_wim (s : State) (c : CpState) : (s.setCp c).wim = s.wim := rfl
@[simp] theorem State.setCp_tba (s : State) (c : CpState) : (s.setCp c).tba = s.tba := rfl
@[simp] theorem State.setCp_tt (s : State) (c : CpState) : (s.setCp c).tt = s.tt := rfl
@[simp] theorem State.setCp_y (s : State) (c : CpState) : (s.setCp c).y = s.y := rfl
@[simp] theorem State.setCp_fpu (s : State) (c : CpState) : (s.setCp c).fpu = s.fpu := rfl
@[simp] theorem State.setCp_cp (s : State) (c : CpState) : (s.setCp c).cp = c := rfl
@[simp] theorem State.setCp_iu (s : State) (c : CpState) : (s.setCp c).iu = s.iu := rfl
@[simp] theorem State.setCp_pbError (s : State) (c : CpState) : (s.setCp c).pbError = s.pbError := rfl
@[simp] theorem State.setCp_inputs (s : State) (c : CpState) : (s.setCp c).inputs = s.inputs := rfl
@[simp] theorem State.setCp_coming (s : State) (c : CpState) : (s.setCp c).coming = s.coming := rfl
@[simp] theorem State.setCp_env (s : State) (c : CpState) : (s.setCp c).env = s.env := rfl
@[simp] theorem State.setCp_mem (s : State) (c : CpState) : (s.setCp c).mem = s.mem := rfl
@[simp] theorem State.setCp_flight (s : State) (c : CpState) : (s.setCp c).flight = s.flight := rfl
@[simp] theorem State.setCp_stale (s : State) (c : CpState) : (s.setCp c).stale = s.stale := rfl
@[simp] theorem State.setCp_prev (s : State) (c : CpState) : (s.setCp c).prev = s.prev := rfl
@[simp] theorem State.setCp_current (s : State) (c : CpState) : (s.setCp c).current = s.current := rfl
@[simp] theorem State.setCp_fetchOpen (s : State) (c : CpState) : (s.setCp c).fetchOpen = s.fetchOpen := rfl
@[simp] theorem State.setCp_fpuSteps (s : State) (c : CpState) : (s.setCp c).fpuSteps = s.fpuSteps := rfl
@[simp] theorem State.setCp_tick (s : State) (c : CpState) : (s.setCp c).tick = s.tick := rfl

/-! #### setFetchOpen -/

@[simp] theorem State.setFetchOpen_cfg (s : State) (b : Bool) : (s.setFetchOpen b).cfg = s.cfg := rfl
@[simp] theorem State.setFetchOpen_globals (s : State) (b : Bool) : (s.setFetchOpen b).globals = s.globals := rfl
@[simp] theorem State.setFetchOpen_windows (s : State) (b : Bool) : (s.setFetchOpen b).windows = s.windows := rfl
@[simp] theorem State.setFetchOpen_pc (s : State) (b : Bool) : (s.setFetchOpen b).pc = s.pc := rfl
@[simp] theorem State.setFetchOpen_npc (s : State) (b : Bool) : (s.setFetchOpen b).npc = s.npc := rfl
@[simp] theorem State.setFetchOpen_annul (s : State) (b : Bool) : (s.setFetchOpen b).annul = s.annul := rfl
@[simp] theorem State.setFetchOpen_psr (s : State) (b : Bool) : (s.setFetchOpen b).psr = s.psr := rfl
@[simp] theorem State.setFetchOpen_wim (s : State) (b : Bool) : (s.setFetchOpen b).wim = s.wim := rfl
@[simp] theorem State.setFetchOpen_tba (s : State) (b : Bool) : (s.setFetchOpen b).tba = s.tba := rfl
@[simp] theorem State.setFetchOpen_tt (s : State) (b : Bool) : (s.setFetchOpen b).tt = s.tt := rfl
@[simp] theorem State.setFetchOpen_y (s : State) (b : Bool) : (s.setFetchOpen b).y = s.y := rfl
@[simp] theorem State.setFetchOpen_fpu (s : State) (b : Bool) : (s.setFetchOpen b).fpu = s.fpu := rfl
@[simp] theorem State.setFetchOpen_cp (s : State) (b : Bool) : (s.setFetchOpen b).cp = s.cp := rfl
@[simp] theorem State.setFetchOpen_iu (s : State) (b : Bool) : (s.setFetchOpen b).iu = s.iu := rfl
@[simp] theorem State.setFetchOpen_pbError (s : State) (b : Bool) : (s.setFetchOpen b).pbError = s.pbError := rfl
@[simp] theorem State.setFetchOpen_inputs (s : State) (b : Bool) : (s.setFetchOpen b).inputs = s.inputs := rfl
@[simp] theorem State.setFetchOpen_coming (s : State) (b : Bool) : (s.setFetchOpen b).coming = s.coming := rfl
@[simp] theorem State.setFetchOpen_env (s : State) (b : Bool) : (s.setFetchOpen b).env = s.env := rfl
@[simp] theorem State.setFetchOpen_mem (s : State) (b : Bool) : (s.setFetchOpen b).mem = s.mem := rfl
@[simp] theorem State.setFetchOpen_flight (s : State) (b : Bool) : (s.setFetchOpen b).flight = s.flight := rfl
@[simp] theorem State.setFetchOpen_stale (s : State) (b : Bool) : (s.setFetchOpen b).stale = s.stale := rfl
@[simp] theorem State.setFetchOpen_prev (s : State) (b : Bool) : (s.setFetchOpen b).prev = s.prev := rfl
@[simp] theorem State.setFetchOpen_current (s : State) (b : Bool) : (s.setFetchOpen b).current = s.current := rfl
@[simp] theorem State.setFetchOpen_fetchOpen (s : State) (b : Bool) : (s.setFetchOpen b).fetchOpen = b := rfl
@[simp] theorem State.setFetchOpen_fpuSteps (s : State) (b : Bool) : (s.setFetchOpen b).fpuSteps = s.fpuSteps := rfl
@[simp] theorem State.setFetchOpen_tick (s : State) (b : Bool) : (s.setFetchOpen b).tick = s.tick := rfl

/-! #### setFsr -/

@[simp] theorem State.setFsr_cfg (s : State) (r : Fsr) : (s.setFsr r).cfg = s.cfg := rfl
@[simp] theorem State.setFsr_globals (s : State) (r : Fsr) : (s.setFsr r).globals = s.globals := rfl
@[simp] theorem State.setFsr_windows (s : State) (r : Fsr) : (s.setFsr r).windows = s.windows := rfl
@[simp] theorem State.setFsr_pc (s : State) (r : Fsr) : (s.setFsr r).pc = s.pc := rfl
@[simp] theorem State.setFsr_npc (s : State) (r : Fsr) : (s.setFsr r).npc = s.npc := rfl
@[simp] theorem State.setFsr_annul (s : State) (r : Fsr) : (s.setFsr r).annul = s.annul := rfl
@[simp] theorem State.setFsr_psr (s : State) (r : Fsr) : (s.setFsr r).psr = s.psr := rfl
@[simp] theorem State.setFsr_wim (s : State) (r : Fsr) : (s.setFsr r).wim = s.wim := rfl
@[simp] theorem State.setFsr_tba (s : State) (r : Fsr) : (s.setFsr r).tba = s.tba := rfl
@[simp] theorem State.setFsr_tt (s : State) (r : Fsr) : (s.setFsr r).tt = s.tt := rfl
@[simp] theorem State.setFsr_y (s : State) (r : Fsr) : (s.setFsr r).y = s.y := rfl
@[simp] theorem State.setFsr_fpu (s : State) (r : Fsr) : (s.setFsr r).fpu = { s.fpu with fsr := r } := rfl
@[simp] theorem State.setFsr_cp (s : State) (r : Fsr) : (s.setFsr r).cp = s.cp := rfl
@[simp] theorem State.setFsr_iu (s : State) (r : Fsr) : (s.setFsr r).iu = s.iu := rfl
@[simp] theorem State.setFsr_pbError (s : State) (r : Fsr) : (s.setFsr r).pbError = s.pbError := rfl
@[simp] theorem State.setFsr_inputs (s : State) (r : Fsr) : (s.setFsr r).inputs = s.inputs := rfl
@[simp] theorem State.setFsr_coming (s : State) (r : Fsr) : (s.setFsr r).coming = s.coming := rfl
@[simp] theorem State.setFsr_env (s : State) (r : Fsr) : (s.setFsr r).env = s.env := rfl
@[simp] theorem State.setFsr_mem (s : State) (r : Fsr) : (s.setFsr r).mem = s.mem := rfl
@[simp] theorem State.setFsr_flight (s : State) (r : Fsr) : (s.setFsr r).flight = s.flight := rfl
@[simp] theorem State.setFsr_stale (s : State) (r : Fsr) : (s.setFsr r).stale = s.stale := rfl
@[simp] theorem State.setFsr_prev (s : State) (r : Fsr) : (s.setFsr r).prev = s.prev := rfl
@[simp] theorem State.setFsr_current (s : State) (r : Fsr) : (s.setFsr r).current = s.current := rfl
@[simp] theorem State.setFsr_fetchOpen (s : State) (r : Fsr) : (s.setFsr r).fetchOpen = s.fetchOpen := rfl
@[simp] theorem State.setFsr_fpuSteps (s : State) (r : Fsr) : (s.setFsr r).fpuSteps = s.fpuSteps := rfl
@[simp] theorem State.setFsr_tick (s : State) (r : Fsr) : (s.setFsr r).tick = s.tick := rfl

/-! #### setFpuMode -/

@[simp] theorem State.setFpuMode_cfg (s : State) (m : FpuMode) : (s.setFpuMode m).cfg = s.cfg := rfl
@[simp] theorem State.setFpuMode_globals (s : State) (m : FpuMode) : (s.setFpuMode m).globals = s.globals := rfl
@[simp] theorem State.setFpuMode_windows (s : State) (m : FpuMode) : (s.setFpuMode m).windows = s.windows := rfl
@[simp] theorem State.setFpuMode_pc (s : State) (m : FpuMode) : (s.setFpuMode m).pc = s.pc := rfl
@[simp] theorem State.setFpuMode_npc (s : State) (m : FpuMode) : (s.setFpuMode m).npc = s.npc := rfl
@[simp] theorem State.setFpuMode_annul (s : State) (m : FpuMode) : (s.setFpuMode m).annul = s.annul := rfl
@[simp] theorem State.setFpuMode_psr (s : State) (m : FpuMode) : (s.setFpuMode m).psr = s.psr := rfl
@[simp] theorem State.setFpuMode_wim (s : State) (m : FpuMode) : (s.setFpuMode m).wim = s.wim := rfl
@[simp] theorem State.setFpuMode_tba (s : State) (m : FpuMode) : (s.setFpuMode m).tba = s.tba := rfl
@[simp] theorem State.setFpuMode_tt (s : State) (m : FpuMode) : (s.setFpuMode m).tt = s.tt := rfl
@[simp] theorem State.setFpuMode_y (s : State) (m : FpuMode) : (s.setFpuMode m).y = s.y := rfl
@[simp] theorem State.setFpuMode_fpu (s : State) (m : FpuMode) : (s.setFpuMode m).fpu = { s.fpu with mode := m } := rfl
@[simp] theorem State.setFpuMode_cp (s : State) (m : FpuMode) : (s.setFpuMode m).cp = s.cp := rfl
@[simp] theorem State.setFpuMode_iu (s : State) (m : FpuMode) : (s.setFpuMode m).iu = s.iu := rfl
@[simp] theorem State.setFpuMode_pbError (s : State) (m : FpuMode) : (s.setFpuMode m).pbError = s.pbError := rfl
@[simp] theorem State.setFpuMode_inputs (s : State) (m : FpuMode) : (s.setFpuMode m).inputs = s.inputs := rfl
@[simp] theorem State.setFpuMode_coming (s : State) (m : FpuMode) : (s.setFpuMode m).coming = s.coming := rfl
@[simp] theorem State.setFpuMode_env (s : State) (m : FpuMode) : (s.setFpuMode m).env = s.env := rfl
@[simp] theorem State.setFpuMode_mem (s : State) (m : FpuMode) : (s.setFpuMode m).mem = s.mem := rfl
@[simp] theorem State.setFpuMode_flight (s : State) (m : FpuMode) : (s.setFpuMode m).flight = s.flight := rfl
@[simp] theorem State.setFpuMode_stale (s : State) (m : FpuMode) : (s.setFpuMode m).stale = s.stale := rfl
@[simp] theorem State.setFpuMode_prev (s : State) (m : FpuMode) : (s.setFpuMode m).prev = s.prev := rfl
@[simp] theorem State.setFpuMode_current (s : State) (m : FpuMode) : (s.setFpuMode m).current = s.current := rfl
@[simp] theorem State.setFpuMode_fetchOpen (s : State) (m : FpuMode) : (s.setFpuMode m).fetchOpen = s.fetchOpen := rfl
@[simp] theorem State.setFpuMode_fpuSteps (s : State) (m : FpuMode) : (s.setFpuMode m).fpuSteps = s.fpuSteps := rfl
@[simp] theorem State.setFpuMode_tick (s : State) (m : FpuMode) : (s.setFpuMode m).tick = s.tick := rfl

/-! #### setQueue -/

@[simp] theorem State.setQueue_cfg (s : State) (q : List FqEntry) : (s.setQueue q).cfg = s.cfg := rfl
@[simp] theorem State.setQueue_globals (s : State) (q : List FqEntry) : (s.setQueue q).globals = s.globals := rfl
@[simp] theorem State.setQueue_windows (s : State) (q : List FqEntry) : (s.setQueue q).windows = s.windows := rfl
@[simp] theorem State.setQueue_pc (s : State) (q : List FqEntry) : (s.setQueue q).pc = s.pc := rfl
@[simp] theorem State.setQueue_npc (s : State) (q : List FqEntry) : (s.setQueue q).npc = s.npc := rfl
@[simp] theorem State.setQueue_annul (s : State) (q : List FqEntry) : (s.setQueue q).annul = s.annul := rfl
@[simp] theorem State.setQueue_psr (s : State) (q : List FqEntry) : (s.setQueue q).psr = s.psr := rfl
@[simp] theorem State.setQueue_wim (s : State) (q : List FqEntry) : (s.setQueue q).wim = s.wim := rfl
@[simp] theorem State.setQueue_tba (s : State) (q : List FqEntry) : (s.setQueue q).tba = s.tba := rfl
@[simp] theorem State.setQueue_tt (s : State) (q : List FqEntry) : (s.setQueue q).tt = s.tt := rfl
@[simp] theorem State.setQueue_y (s : State) (q : List FqEntry) : (s.setQueue q).y = s.y := rfl
@[simp] theorem State.setQueue_fpu (s : State) (q : List FqEntry) : (s.setQueue q).fpu = { s.fpu with queue := q } := rfl
@[simp] theorem State.setQueue_cp (s : State) (q : List FqEntry) : (s.setQueue q).cp = s.cp := rfl
@[simp] theorem State.setQueue_iu (s : State) (q : List FqEntry) : (s.setQueue q).iu = s.iu := rfl
@[simp] theorem State.setQueue_pbError (s : State) (q : List FqEntry) : (s.setQueue q).pbError = s.pbError := rfl
@[simp] theorem State.setQueue_inputs (s : State) (q : List FqEntry) : (s.setQueue q).inputs = s.inputs := rfl
@[simp] theorem State.setQueue_coming (s : State) (q : List FqEntry) : (s.setQueue q).coming = s.coming := rfl
@[simp] theorem State.setQueue_env (s : State) (q : List FqEntry) : (s.setQueue q).env = s.env := rfl
@[simp] theorem State.setQueue_mem (s : State) (q : List FqEntry) : (s.setQueue q).mem = s.mem := rfl
@[simp] theorem State.setQueue_flight (s : State) (q : List FqEntry) : (s.setQueue q).flight = s.flight := rfl
@[simp] theorem State.setQueue_stale (s : State) (q : List FqEntry) : (s.setQueue q).stale = s.stale := rfl
@[simp] theorem State.setQueue_prev (s : State) (q : List FqEntry) : (s.setQueue q).prev = s.prev := rfl
@[simp] theorem State.setQueue_current (s : State) (q : List FqEntry) : (s.setQueue q).current = s.current := rfl
@[simp] theorem State.setQueue_fetchOpen (s : State) (q : List FqEntry) : (s.setQueue q).fetchOpen = s.fetchOpen := rfl
@[simp] theorem State.setQueue_fpuSteps (s : State) (q : List FqEntry) : (s.setQueue q).fpuSteps = s.fpuSteps := rfl
@[simp] theorem State.setQueue_tick (s : State) (q : List FqEntry) : (s.setQueue q).tick = s.tick := rfl

/-! #### setFreg -/

@[simp] theorem State.setFreg_cfg (s : State) (n : Reg) (v : Word) : (s.setFreg n v).cfg = s.cfg := rfl
@[simp] theorem State.setFreg_globals (s : State) (n : Reg) (v : Word) : (s.setFreg n v).globals = s.globals := rfl
@[simp] theorem State.setFreg_windows (s : State) (n : Reg) (v : Word) : (s.setFreg n v).windows = s.windows := rfl
@[simp] theorem State.setFreg_pc (s : State) (n : Reg) (v : Word) : (s.setFreg n v).pc = s.pc := rfl
@[simp] theorem State.setFreg_npc (s : State) (n : Reg) (v : Word) : (s.setFreg n v).npc = s.npc := rfl
@[simp] theorem State.setFreg_annul (s : State) (n : Reg) (v : Word) : (s.setFreg n v).annul = s.annul := rfl
@[simp] theorem State.setFreg_psr (s : State) (n : Reg) (v : Word) : (s.setFreg n v).psr = s.psr := rfl
@[simp] theorem State.setFreg_wim (s : State) (n : Reg) (v : Word) : (s.setFreg n v).wim = s.wim := rfl
@[simp] theorem State.setFreg_tba (s : State) (n : Reg) (v : Word) : (s.setFreg n v).tba = s.tba := rfl
@[simp] theorem State.setFreg_tt (s : State) (n : Reg) (v : Word) : (s.setFreg n v).tt = s.tt := rfl
@[simp] theorem State.setFreg_y (s : State) (n : Reg) (v : Word) : (s.setFreg n v).y = s.y := rfl
@[simp] theorem State.setFreg_fpu (s : State) (n : Reg) (v : Word) : (s.setFreg n v).fpu = { s.fpu with f := s.fpu.f.set n.toNat v n.isLt } := rfl
@[simp] theorem State.setFreg_cp (s : State) (n : Reg) (v : Word) : (s.setFreg n v).cp = s.cp := rfl
@[simp] theorem State.setFreg_iu (s : State) (n : Reg) (v : Word) : (s.setFreg n v).iu = s.iu := rfl
@[simp] theorem State.setFreg_pbError (s : State) (n : Reg) (v : Word) : (s.setFreg n v).pbError = s.pbError := rfl
@[simp] theorem State.setFreg_inputs (s : State) (n : Reg) (v : Word) : (s.setFreg n v).inputs = s.inputs := rfl
@[simp] theorem State.setFreg_coming (s : State) (n : Reg) (v : Word) : (s.setFreg n v).coming = s.coming := rfl
@[simp] theorem State.setFreg_env (s : State) (n : Reg) (v : Word) : (s.setFreg n v).env = s.env := rfl
@[simp] theorem State.setFreg_mem (s : State) (n : Reg) (v : Word) : (s.setFreg n v).mem = s.mem := rfl
@[simp] theorem State.setFreg_flight (s : State) (n : Reg) (v : Word) : (s.setFreg n v).flight = s.flight := rfl
@[simp] theorem State.setFreg_stale (s : State) (n : Reg) (v : Word) : (s.setFreg n v).stale = s.stale := rfl
@[simp] theorem State.setFreg_prev (s : State) (n : Reg) (v : Word) : (s.setFreg n v).prev = s.prev := rfl
@[simp] theorem State.setFreg_current (s : State) (n : Reg) (v : Word) : (s.setFreg n v).current = s.current := rfl
@[simp] theorem State.setFreg_fetchOpen (s : State) (n : Reg) (v : Word) : (s.setFreg n v).fetchOpen = s.fetchOpen := rfl
@[simp] theorem State.setFreg_fpuSteps (s : State) (n : Reg) (v : Word) : (s.setFreg n v).fpuSteps = s.fpuSteps := rfl
@[simp] theorem State.setFreg_tick (s : State) (n : Reg) (v : Word) : (s.setFreg n v).tick = s.tick := rfl

/-! #### setCreg -/

@[simp] theorem State.setCreg_cfg (s : State) (n : Reg) (v : Word) : (s.setCreg n v).cfg = s.cfg := rfl
@[simp] theorem State.setCreg_globals (s : State) (n : Reg) (v : Word) : (s.setCreg n v).globals = s.globals := rfl
@[simp] theorem State.setCreg_windows (s : State) (n : Reg) (v : Word) : (s.setCreg n v).windows = s.windows := rfl
@[simp] theorem State.setCreg_pc (s : State) (n : Reg) (v : Word) : (s.setCreg n v).pc = s.pc := rfl
@[simp] theorem State.setCreg_npc (s : State) (n : Reg) (v : Word) : (s.setCreg n v).npc = s.npc := rfl
@[simp] theorem State.setCreg_annul (s : State) (n : Reg) (v : Word) : (s.setCreg n v).annul = s.annul := rfl
@[simp] theorem State.setCreg_psr (s : State) (n : Reg) (v : Word) : (s.setCreg n v).psr = s.psr := rfl
@[simp] theorem State.setCreg_wim (s : State) (n : Reg) (v : Word) : (s.setCreg n v).wim = s.wim := rfl
@[simp] theorem State.setCreg_tba (s : State) (n : Reg) (v : Word) : (s.setCreg n v).tba = s.tba := rfl
@[simp] theorem State.setCreg_tt (s : State) (n : Reg) (v : Word) : (s.setCreg n v).tt = s.tt := rfl
@[simp] theorem State.setCreg_y (s : State) (n : Reg) (v : Word) : (s.setCreg n v).y = s.y := rfl
@[simp] theorem State.setCreg_fpu (s : State) (n : Reg) (v : Word) : (s.setCreg n v).fpu = s.fpu := rfl
@[simp] theorem State.setCreg_cp (s : State) (n : Reg) (v : Word) : (s.setCreg n v).cp = { s.cp with c := s.cp.c.set n.toNat v n.isLt } := rfl
@[simp] theorem State.setCreg_iu (s : State) (n : Reg) (v : Word) : (s.setCreg n v).iu = s.iu := rfl
@[simp] theorem State.setCreg_pbError (s : State) (n : Reg) (v : Word) : (s.setCreg n v).pbError = s.pbError := rfl
@[simp] theorem State.setCreg_inputs (s : State) (n : Reg) (v : Word) : (s.setCreg n v).inputs = s.inputs := rfl
@[simp] theorem State.setCreg_coming (s : State) (n : Reg) (v : Word) : (s.setCreg n v).coming = s.coming := rfl
@[simp] theorem State.setCreg_env (s : State) (n : Reg) (v : Word) : (s.setCreg n v).env = s.env := rfl
@[simp] theorem State.setCreg_mem (s : State) (n : Reg) (v : Word) : (s.setCreg n v).mem = s.mem := rfl
@[simp] theorem State.setCreg_flight (s : State) (n : Reg) (v : Word) : (s.setCreg n v).flight = s.flight := rfl
@[simp] theorem State.setCreg_stale (s : State) (n : Reg) (v : Word) : (s.setCreg n v).stale = s.stale := rfl
@[simp] theorem State.setCreg_prev (s : State) (n : Reg) (v : Word) : (s.setCreg n v).prev = s.prev := rfl
@[simp] theorem State.setCreg_current (s : State) (n : Reg) (v : Word) : (s.setCreg n v).current = s.current := rfl
@[simp] theorem State.setCreg_fetchOpen (s : State) (n : Reg) (v : Word) : (s.setCreg n v).fetchOpen = s.fetchOpen := rfl
@[simp] theorem State.setCreg_fpuSteps (s : State) (n : Reg) (v : Word) : (s.setCreg n v).fpuSteps = s.fpuSteps := rfl
@[simp] theorem State.setCreg_tick (s : State) (n : Reg) (v : Word) : (s.setCreg n v).tick = s.tick := rfl

/-! #### putIcc -/

@[simp] theorem State.putIcc_cfg (s : State) (i : Icc) : (s.putIcc i).cfg = s.cfg := rfl
@[simp] theorem State.putIcc_globals (s : State) (i : Icc) : (s.putIcc i).globals = s.globals := rfl
@[simp] theorem State.putIcc_windows (s : State) (i : Icc) : (s.putIcc i).windows = s.windows := rfl
@[simp] theorem State.putIcc_pc (s : State) (i : Icc) : (s.putIcc i).pc = s.pc := rfl
@[simp] theorem State.putIcc_npc (s : State) (i : Icc) : (s.putIcc i).npc = s.npc := rfl
@[simp] theorem State.putIcc_annul (s : State) (i : Icc) : (s.putIcc i).annul = s.annul := rfl
@[simp] theorem State.putIcc_psr (s : State) (i : Icc) : (s.putIcc i).psr = { s.psr with icc := i } := rfl
@[simp] theorem State.putIcc_wim (s : State) (i : Icc) : (s.putIcc i).wim = s.wim := rfl
@[simp] theorem State.putIcc_tba (s : State) (i : Icc) : (s.putIcc i).tba = s.tba := rfl
@[simp] theorem State.putIcc_tt (s : State) (i : Icc) : (s.putIcc i).tt = s.tt := rfl
@[simp] theorem State.putIcc_y (s : State) (i : Icc) : (s.putIcc i).y = s.y := rfl
@[simp] theorem State.putIcc_fpu (s : State) (i : Icc) : (s.putIcc i).fpu = s.fpu := rfl
@[simp] theorem State.putIcc_cp (s : State) (i : Icc) : (s.putIcc i).cp = s.cp := rfl
@[simp] theorem State.putIcc_iu (s : State) (i : Icc) : (s.putIcc i).iu = s.iu := rfl
@[simp] theorem State.putIcc_pbError (s : State) (i : Icc) : (s.putIcc i).pbError = s.pbError := rfl
@[simp] theorem State.putIcc_inputs (s : State) (i : Icc) : (s.putIcc i).inputs = s.inputs := rfl
@[simp] theorem State.putIcc_coming (s : State) (i : Icc) : (s.putIcc i).coming = s.coming := rfl
@[simp] theorem State.putIcc_env (s : State) (i : Icc) : (s.putIcc i).env = s.env := rfl
@[simp] theorem State.putIcc_mem (s : State) (i : Icc) : (s.putIcc i).mem = s.mem := rfl
@[simp] theorem State.putIcc_flight (s : State) (i : Icc) : (s.putIcc i).flight = s.settled .icc := rfl
@[simp] theorem State.putIcc_stale (s : State) (i : Icc) : (s.putIcc i).stale = s.stale := rfl
@[simp] theorem State.putIcc_prev (s : State) (i : Icc) : (s.putIcc i).prev = s.prev := rfl
@[simp] theorem State.putIcc_current (s : State) (i : Icc) : (s.putIcc i).current = s.current := rfl
@[simp] theorem State.putIcc_fetchOpen (s : State) (i : Icc) : (s.putIcc i).fetchOpen = s.fetchOpen := rfl
@[simp] theorem State.putIcc_fpuSteps (s : State) (i : Icc) : (s.putIcc i).fpuSteps = s.fpuSteps := rfl
@[simp] theorem State.putIcc_tick (s : State) (i : Icc) : (s.putIcc i).tick = s.tick := rfl

/-! #### putCwp -/

@[simp] theorem State.putCwp_cfg (s : State) (w : BitVec 5) : (s.putCwp w).cfg = s.cfg := rfl
@[simp] theorem State.putCwp_globals (s : State) (w : BitVec 5) : (s.putCwp w).globals = s.globals := rfl
@[simp] theorem State.putCwp_windows (s : State) (w : BitVec 5) : (s.putCwp w).windows = s.windows := rfl
@[simp] theorem State.putCwp_pc (s : State) (w : BitVec 5) : (s.putCwp w).pc = s.pc := rfl
@[simp] theorem State.putCwp_npc (s : State) (w : BitVec 5) : (s.putCwp w).npc = s.npc := rfl
@[simp] theorem State.putCwp_annul (s : State) (w : BitVec 5) : (s.putCwp w).annul = s.annul := rfl
@[simp] theorem State.putCwp_psr (s : State) (w : BitVec 5) : (s.putCwp w).psr = { s.psr with cwp := w } := rfl
@[simp] theorem State.putCwp_wim (s : State) (w : BitVec 5) : (s.putCwp w).wim = s.wim := rfl
@[simp] theorem State.putCwp_tba (s : State) (w : BitVec 5) : (s.putCwp w).tba = s.tba := rfl
@[simp] theorem State.putCwp_tt (s : State) (w : BitVec 5) : (s.putCwp w).tt = s.tt := rfl
@[simp] theorem State.putCwp_y (s : State) (w : BitVec 5) : (s.putCwp w).y = s.y := rfl
@[simp] theorem State.putCwp_fpu (s : State) (w : BitVec 5) : (s.putCwp w).fpu = s.fpu := rfl
@[simp] theorem State.putCwp_cp (s : State) (w : BitVec 5) : (s.putCwp w).cp = s.cp := rfl
@[simp] theorem State.putCwp_iu (s : State) (w : BitVec 5) : (s.putCwp w).iu = s.iu := rfl
@[simp] theorem State.putCwp_pbError (s : State) (w : BitVec 5) : (s.putCwp w).pbError = s.pbError := rfl
@[simp] theorem State.putCwp_inputs (s : State) (w : BitVec 5) : (s.putCwp w).inputs = s.inputs := rfl
@[simp] theorem State.putCwp_coming (s : State) (w : BitVec 5) : (s.putCwp w).coming = s.coming := rfl
@[simp] theorem State.putCwp_env (s : State) (w : BitVec 5) : (s.putCwp w).env = s.env := rfl
@[simp] theorem State.putCwp_mem (s : State) (w : BitVec 5) : (s.putCwp w).mem = s.mem := rfl
@[simp] theorem State.putCwp_flight (s : State) (w : BitVec 5) : (s.putCwp w).flight = s.settled .cwp := rfl
@[simp] theorem State.putCwp_stale (s : State) (w : BitVec 5) : (s.putCwp w).stale = s.stale := rfl
@[simp] theorem State.putCwp_prev (s : State) (w : BitVec 5) : (s.putCwp w).prev = s.prev := rfl
@[simp] theorem State.putCwp_current (s : State) (w : BitVec 5) : (s.putCwp w).current = s.current := rfl
@[simp] theorem State.putCwp_fetchOpen (s : State) (w : BitVec 5) : (s.putCwp w).fetchOpen = s.fetchOpen := rfl
@[simp] theorem State.putCwp_fpuSteps (s : State) (w : BitVec 5) : (s.putCwp w).fpuSteps = s.fpuSteps := rfl
@[simp] theorem State.putCwp_tick (s : State) (w : BitVec 5) : (s.putCwp w).tick = s.tick := rfl

/-! #### putS -/

@[simp] theorem State.putS_cfg (s : State) (b : Bool) : (s.putS b).cfg = s.cfg := rfl
@[simp] theorem State.putS_globals (s : State) (b : Bool) : (s.putS b).globals = s.globals := rfl
@[simp] theorem State.putS_windows (s : State) (b : Bool) : (s.putS b).windows = s.windows := rfl
@[simp] theorem State.putS_pc (s : State) (b : Bool) : (s.putS b).pc = s.pc := rfl
@[simp] theorem State.putS_npc (s : State) (b : Bool) : (s.putS b).npc = s.npc := rfl
@[simp] theorem State.putS_annul (s : State) (b : Bool) : (s.putS b).annul = s.annul := rfl
@[simp] theorem State.putS_psr (s : State) (b : Bool) : (s.putS b).psr = { s.psr with s := b } := rfl
@[simp] theorem State.putS_wim (s : State) (b : Bool) : (s.putS b).wim = s.wim := rfl
@[simp] theorem State.putS_tba (s : State) (b : Bool) : (s.putS b).tba = s.tba := rfl
@[simp] theorem State.putS_tt (s : State) (b : Bool) : (s.putS b).tt = s.tt := rfl
@[simp] theorem State.putS_y (s : State) (b : Bool) : (s.putS b).y = s.y := rfl
@[simp] theorem State.putS_fpu (s : State) (b : Bool) : (s.putS b).fpu = s.fpu := rfl
@[simp] theorem State.putS_cp (s : State) (b : Bool) : (s.putS b).cp = s.cp := rfl
@[simp] theorem State.putS_iu (s : State) (b : Bool) : (s.putS b).iu = s.iu := rfl
@[simp] theorem State.putS_pbError (s : State) (b : Bool) : (s.putS b).pbError = s.pbError := rfl
@[simp] theorem State.putS_inputs (s : State) (b : Bool) : (s.putS b).inputs = s.inputs := rfl
@[simp] theorem State.putS_coming (s : State) (b : Bool) : (s.putS b).coming = s.coming := rfl
@[simp] theorem State.putS_env (s : State) (b : Bool) : (s.putS b).env = s.env := rfl
@[simp] theorem State.putS_mem (s : State) (b : Bool) : (s.putS b).mem = s.mem := rfl
@[simp] theorem State.putS_flight (s : State) (b : Bool) : (s.putS b).flight = s.settled .s := rfl
@[simp] theorem State.putS_stale (s : State) (b : Bool) : (s.putS b).stale = s.stale := rfl
@[simp] theorem State.putS_prev (s : State) (b : Bool) : (s.putS b).prev = s.prev := rfl
@[simp] theorem State.putS_current (s : State) (b : Bool) : (s.putS b).current = s.current := rfl
@[simp] theorem State.putS_fetchOpen (s : State) (b : Bool) : (s.putS b).fetchOpen = s.fetchOpen := rfl
@[simp] theorem State.putS_fpuSteps (s : State) (b : Bool) : (s.putS b).fpuSteps = s.fpuSteps := rfl
@[simp] theorem State.putS_tick (s : State) (b : Bool) : (s.putS b).tick = s.tick := rfl

/-! #### putEt -/

@[simp] theorem State.putEt_cfg (s : State) (b : Bool) : (s.putEt b).cfg = s.cfg := rfl
@[simp] theorem State.putEt_globals (s : State) (b : Bool) : (s.putEt b).globals = s.globals := rfl
@[simp] theorem State.putEt_windows (s : State) (b : Bool) : (s.putEt b).windows = s.windows := rfl
@[simp] theorem State.putEt_pc (s : State) (b : Bool) : (s.putEt b).pc = s.pc := rfl
@[simp] theorem State.putEt_npc (s : State) (b : Bool) : (s.putEt b).npc = s.npc := rfl
@[simp] theorem State.putEt_annul (s : State) (b : Bool) : (s.putEt b).annul = s.annul := rfl
@[simp] theorem State.putEt_psr (s : State) (b : Bool) : (s.putEt b).psr = { s.psr with et := b } := rfl
@[simp] theorem State.putEt_wim (s : State) (b : Bool) : (s.putEt b).wim = s.wim := rfl
@[simp] theorem State.putEt_tba (s : State) (b : Bool) : (s.putEt b).tba = s.tba := rfl
@[simp] theorem State.putEt_tt (s : State) (b : Bool) : (s.putEt b).tt = s.tt := rfl
@[simp] theorem State.putEt_y (s : State) (b : Bool) : (s.putEt b).y = s.y := rfl
@[simp] theorem State.putEt_fpu (s : State) (b : Bool) : (s.putEt b).fpu = s.fpu := rfl
@[simp] theorem State.putEt_cp (s : State) (b : Bool) : (s.putEt b).cp = s.cp := rfl
@[simp] theorem State.putEt_iu (s : State) (b : Bool) : (s.putEt b).iu = s.iu := rfl
@[simp] theorem State.putEt_pbError (s : State) (b : Bool) : (s.putEt b).pbError = s.pbError := rfl
@[simp] theorem State.putEt_inputs (s : State) (b : Bool) : (s.putEt b).inputs = s.inputs := rfl
@[simp] theorem State.putEt_coming (s : State) (b : Bool) : (s.putEt b).coming = s.coming := rfl
@[simp] theorem State.putEt_env (s : State) (b : Bool) : (s.putEt b).env = s.env := rfl
@[simp] theorem State.putEt_mem (s : State) (b : Bool) : (s.putEt b).mem = s.mem := rfl
@[simp] theorem State.putEt_flight (s : State) (b : Bool) : (s.putEt b).flight = s.settled .et := rfl
@[simp] theorem State.putEt_stale (s : State) (b : Bool) : (s.putEt b).stale = s.stale := rfl
@[simp] theorem State.putEt_prev (s : State) (b : Bool) : (s.putEt b).prev = s.prev := rfl
@[simp] theorem State.putEt_current (s : State) (b : Bool) : (s.putEt b).current = s.current := rfl
@[simp] theorem State.putEt_fetchOpen (s : State) (b : Bool) : (s.putEt b).fetchOpen = s.fetchOpen := rfl
@[simp] theorem State.putEt_fpuSteps (s : State) (b : Bool) : (s.putEt b).fpuSteps = s.fpuSteps := rfl
@[simp] theorem State.putEt_tick (s : State) (b : Bool) : (s.putEt b).tick = s.tick := rfl

/-! #### putY -/

@[simp] theorem State.putY_cfg (s : State) (v : Word) : (s.putY v).cfg = s.cfg := rfl
@[simp] theorem State.putY_globals (s : State) (v : Word) : (s.putY v).globals = s.globals := rfl
@[simp] theorem State.putY_windows (s : State) (v : Word) : (s.putY v).windows = s.windows := rfl
@[simp] theorem State.putY_pc (s : State) (v : Word) : (s.putY v).pc = s.pc := rfl
@[simp] theorem State.putY_npc (s : State) (v : Word) : (s.putY v).npc = s.npc := rfl
@[simp] theorem State.putY_annul (s : State) (v : Word) : (s.putY v).annul = s.annul := rfl
@[simp] theorem State.putY_psr (s : State) (v : Word) : (s.putY v).psr = s.psr := rfl
@[simp] theorem State.putY_wim (s : State) (v : Word) : (s.putY v).wim = s.wim := rfl
@[simp] theorem State.putY_tba (s : State) (v : Word) : (s.putY v).tba = s.tba := rfl
@[simp] theorem State.putY_tt (s : State) (v : Word) : (s.putY v).tt = s.tt := rfl
@[simp] theorem State.putY_y (s : State) (v : Word) : (s.putY v).y = v := rfl
@[simp] theorem State.putY_fpu (s : State) (v : Word) : (s.putY v).fpu = s.fpu := rfl
@[simp] theorem State.putY_cp (s : State) (v : Word) : (s.putY v).cp = s.cp := rfl
@[simp] theorem State.putY_iu (s : State) (v : Word) : (s.putY v).iu = s.iu := rfl
@[simp] theorem State.putY_pbError (s : State) (v : Word) : (s.putY v).pbError = s.pbError := rfl
@[simp] theorem State.putY_inputs (s : State) (v : Word) : (s.putY v).inputs = s.inputs := rfl
@[simp] theorem State.putY_coming (s : State) (v : Word) : (s.putY v).coming = s.coming := rfl
@[simp] theorem State.putY_env (s : State) (v : Word) : (s.putY v).env = s.env := rfl
@[simp] theorem State.putY_mem (s : State) (v : Word) : (s.putY v).mem = s.mem := rfl
@[simp] theorem State.putY_flight (s : State) (v : Word) : (s.putY v).flight = s.settled .y := rfl
@[simp] theorem State.putY_stale (s : State) (v : Word) : (s.putY v).stale = s.stale := rfl
@[simp] theorem State.putY_prev (s : State) (v : Word) : (s.putY v).prev = s.prev := rfl
@[simp] theorem State.putY_current (s : State) (v : Word) : (s.putY v).current = s.current := rfl
@[simp] theorem State.putY_fetchOpen (s : State) (v : Word) : (s.putY v).fetchOpen = s.fetchOpen := rfl
@[simp] theorem State.putY_fpuSteps (s : State) (v : Word) : (s.putY v).fpuSteps = s.fpuSteps := rfl
@[simp] theorem State.putY_tick (s : State) (v : Word) : (s.putY v).tick = s.tick := rfl

/-! #### retire -/

@[simp] theorem State.retire_cfg (s : State) : (s.retire).cfg = s.cfg := rfl
@[simp] theorem State.retire_globals (s : State) : (s.retire).globals = s.globals := rfl
@[simp] theorem State.retire_windows (s : State) : (s.retire).windows = s.windows := rfl
@[simp] theorem State.retire_pc (s : State) : (s.retire).pc = s.pc := rfl
@[simp] theorem State.retire_npc (s : State) : (s.retire).npc = s.npc := rfl
@[simp] theorem State.retire_annul (s : State) : (s.retire).annul = s.annul := rfl
@[simp] theorem State.retire_psr (s : State) : (s.retire).psr = s.psr := rfl
@[simp] theorem State.retire_wim (s : State) : (s.retire).wim = s.wim := rfl
@[simp] theorem State.retire_tba (s : State) : (s.retire).tba = s.tba := rfl
@[simp] theorem State.retire_tt (s : State) : (s.retire).tt = s.tt := rfl
@[simp] theorem State.retire_y (s : State) : (s.retire).y = s.y := rfl
@[simp] theorem State.retire_fpu (s : State) : (s.retire).fpu = s.fpu := rfl
@[simp] theorem State.retire_cp (s : State) : (s.retire).cp = s.cp := rfl
@[simp] theorem State.retire_iu (s : State) : (s.retire).iu = s.iu := rfl
@[simp] theorem State.retire_pbError (s : State) : (s.retire).pbError = s.pbError := rfl
@[simp] theorem State.retire_inputs (s : State) : (s.retire).inputs = s.inputs := rfl
@[simp] theorem State.retire_coming (s : State) : (s.retire).coming = s.coming := rfl
@[simp] theorem State.retire_env (s : State) : (s.retire).env = s.env := rfl
@[simp] theorem State.retire_mem (s : State) : (s.retire).mem = s.mem := rfl
@[simp] theorem State.retire_flight (s : State) : (s.retire).flight = s.flight := rfl
@[simp] theorem State.retire_stale (s : State) : (s.retire).stale = s.stale.filter (fun e => !e.flushed) := rfl
@[simp] theorem State.retire_prev (s : State) : (s.retire).prev = s.current := rfl
@[simp] theorem State.retire_current (s : State) : (s.retire).current = s.current := rfl
@[simp] theorem State.retire_fetchOpen (s : State) : (s.retire).fetchOpen = s.fetchOpen := rfl
@[simp] theorem State.retire_fpuSteps (s : State) : (s.retire).fpuSteps = s.fpuSteps := rfl
@[simp] theorem State.retire_tick (s : State) : (s.retire).tick = s.tick := rfl

/-! #### advance -/

@[simp] theorem State.advance_cfg (s : State) : (s.advance).cfg = s.cfg := rfl
@[simp] theorem State.advance_globals (s : State) : (s.advance).globals = s.globals := rfl
@[simp] theorem State.advance_windows (s : State) : (s.advance).windows = s.windows := rfl
@[simp] theorem State.advance_pc (s : State) : (s.advance).pc = s.npc := rfl
@[simp] theorem State.advance_npc (s : State) : (s.advance).npc = s.npc + 4 := rfl
@[simp] theorem State.advance_annul (s : State) : (s.advance).annul = s.annul := rfl
@[simp] theorem State.advance_psr (s : State) : (s.advance).psr = s.psr := rfl
@[simp] theorem State.advance_wim (s : State) : (s.advance).wim = s.wim := rfl
@[simp] theorem State.advance_tba (s : State) : (s.advance).tba = s.tba := rfl
@[simp] theorem State.advance_tt (s : State) : (s.advance).tt = s.tt := rfl
@[simp] theorem State.advance_y (s : State) : (s.advance).y = s.y := rfl
@[simp] theorem State.advance_fpu (s : State) : (s.advance).fpu = s.fpu := rfl
@[simp] theorem State.advance_cp (s : State) : (s.advance).cp = s.cp := rfl
@[simp] theorem State.advance_iu (s : State) : (s.advance).iu = s.iu := rfl
@[simp] theorem State.advance_pbError (s : State) : (s.advance).pbError = s.pbError := rfl
@[simp] theorem State.advance_inputs (s : State) : (s.advance).inputs = s.inputs := rfl
@[simp] theorem State.advance_coming (s : State) : (s.advance).coming = s.coming := rfl
@[simp] theorem State.advance_env (s : State) : (s.advance).env = s.env := rfl
@[simp] theorem State.advance_mem (s : State) : (s.advance).mem = s.mem := rfl
@[simp] theorem State.advance_flight (s : State) : (s.advance).flight = s.flight := rfl
@[simp] theorem State.advance_stale (s : State) : (s.advance).stale = s.stale.filter (fun e => !e.flushed) := rfl
@[simp] theorem State.advance_prev (s : State) : (s.advance).prev = s.current := rfl
@[simp] theorem State.advance_current (s : State) : (s.advance).current = s.current := rfl
@[simp] theorem State.advance_fetchOpen (s : State) : (s.advance).fetchOpen = s.fetchOpen := rfl
@[simp] theorem State.advance_fpuSteps (s : State) : (s.advance).fpuSteps = s.fpuSteps := rfl
@[simp] theorem State.advance_tick (s : State) : (s.advance).tick = s.tick := rfl

/-! #### enterErrorMode -/

@[simp] theorem State.enterErrorMode_cfg (s : State) : (s.enterErrorMode).cfg = s.cfg := rfl
@[simp] theorem State.enterErrorMode_globals (s : State) : (s.enterErrorMode).globals = s.globals := rfl
@[simp] theorem State.enterErrorMode_windows (s : State) : (s.enterErrorMode).windows = s.windows := rfl
@[simp] theorem State.enterErrorMode_pc (s : State) : (s.enterErrorMode).pc = s.pc := rfl
@[simp] theorem State.enterErrorMode_npc (s : State) : (s.enterErrorMode).npc = s.npc := rfl
@[simp] theorem State.enterErrorMode_annul (s : State) : (s.enterErrorMode).annul = s.annul := rfl
@[simp] theorem State.enterErrorMode_psr (s : State) : (s.enterErrorMode).psr = s.psr := rfl
@[simp] theorem State.enterErrorMode_wim (s : State) : (s.enterErrorMode).wim = s.wim := rfl
@[simp] theorem State.enterErrorMode_tba (s : State) : (s.enterErrorMode).tba = s.tba := rfl
@[simp] theorem State.enterErrorMode_tt (s : State) : (s.enterErrorMode).tt = s.tt := rfl
@[simp] theorem State.enterErrorMode_y (s : State) : (s.enterErrorMode).y = s.y := rfl
@[simp] theorem State.enterErrorMode_fpu (s : State) : (s.enterErrorMode).fpu = { s.fpu with mode := .error } := rfl
@[simp] theorem State.enterErrorMode_cp (s : State) : (s.enterErrorMode).cp = s.cp := rfl
@[simp] theorem State.enterErrorMode_iu (s : State) : (s.enterErrorMode).iu = .error := rfl
@[simp] theorem State.enterErrorMode_pbError (s : State) : (s.enterErrorMode).pbError = true := rfl
@[simp] theorem State.enterErrorMode_inputs (s : State) : (s.enterErrorMode).inputs = s.inputs := rfl
@[simp] theorem State.enterErrorMode_coming (s : State) : (s.enterErrorMode).coming = s.coming := rfl
@[simp] theorem State.enterErrorMode_env (s : State) : (s.enterErrorMode).env = s.env := rfl
@[simp] theorem State.enterErrorMode_mem (s : State) : (s.enterErrorMode).mem = s.mem := rfl
@[simp] theorem State.enterErrorMode_flight (s : State) : (s.enterErrorMode).flight = s.flight := rfl
@[simp] theorem State.enterErrorMode_stale (s : State) : (s.enterErrorMode).stale = s.stale := rfl
@[simp] theorem State.enterErrorMode_prev (s : State) : (s.enterErrorMode).prev = s.prev := rfl
@[simp] theorem State.enterErrorMode_current (s : State) : (s.enterErrorMode).current = s.current := rfl
@[simp] theorem State.enterErrorMode_fetchOpen (s : State) : (s.enterErrorMode).fetchOpen = s.fetchOpen := rfl
@[simp] theorem State.enterErrorMode_fpuSteps (s : State) : (s.enterErrorMode).fpuSteps = s.fpuSteps := rfl
@[simp] theorem State.enterErrorMode_tick (s : State) : (s.enterErrorMode).tick = s.tick := rfl

/-! #### enterReset -/

@[simp] theorem State.enterReset_cfg (s : State) : (s.enterReset).cfg = s.cfg := rfl
@[simp] theorem State.enterReset_globals (s : State) : (s.enterReset).globals = s.globals := rfl
@[simp] theorem State.enterReset_windows (s : State) : (s.enterReset).windows = s.windows := rfl
@[simp] theorem State.enterReset_pc (s : State) : (s.enterReset).pc = s.pc := rfl
@[simp] theorem State.enterReset_npc (s : State) : (s.enterReset).npc = s.npc := rfl
@[simp] theorem State.enterReset_annul (s : State) : (s.enterReset).annul = s.annul := rfl
@[simp] theorem State.enterReset_psr (s : State) : (s.enterReset).psr = s.psr := rfl
@[simp] theorem State.enterReset_wim (s : State) : (s.enterReset).wim = s.wim := rfl
@[simp] theorem State.enterReset_tba (s : State) : (s.enterReset).tba = s.tba := rfl
@[simp] theorem State.enterReset_tt (s : State) : (s.enterReset).tt = s.tt := rfl
@[simp] theorem State.enterReset_y (s : State) : (s.enterReset).y = s.y := rfl
@[simp] theorem State.enterReset_fpu (s : State) : (s.enterReset).fpu = { s.fpu with mode := .reset } := rfl
@[simp] theorem State.enterReset_cp (s : State) : (s.enterReset).cp = s.cp := rfl
@[simp] theorem State.enterReset_iu (s : State) : (s.enterReset).iu = .reset := rfl
@[simp] theorem State.enterReset_pbError (s : State) : (s.enterReset).pbError = false := rfl
@[simp] theorem State.enterReset_inputs (s : State) : (s.enterReset).inputs = s.inputs := rfl
@[simp] theorem State.enterReset_coming (s : State) : (s.enterReset).coming = s.coming := rfl
@[simp] theorem State.enterReset_env (s : State) : (s.enterReset).env = s.env := rfl
@[simp] theorem State.enterReset_mem (s : State) : (s.enterReset).mem = s.mem := rfl
@[simp] theorem State.enterReset_flight (s : State) : (s.enterReset).flight = s.flight := rfl
@[simp] theorem State.enterReset_stale (s : State) : (s.enterReset).stale = s.stale := rfl
@[simp] theorem State.enterReset_prev (s : State) : (s.enterReset).prev = s.prev := rfl
@[simp] theorem State.enterReset_current (s : State) : (s.enterReset).current = s.current := rfl
@[simp] theorem State.enterReset_fetchOpen (s : State) : (s.enterReset).fetchOpen = s.fetchOpen := rfl
@[simp] theorem State.enterReset_fpuSteps (s : State) : (s.enterReset).fpuSteps = s.fpuSteps := rfl
@[simp] theorem State.enterReset_tick (s : State) : (s.enterReset).tick = s.tick := rfl

/-! #### executing -/

@[simp] theorem State.executing_cfg (s : State) (k : Kind) : (s.executing k).cfg = s.cfg := rfl
@[simp] theorem State.executing_globals (s : State) (k : Kind) : (s.executing k).globals = s.globals := rfl
@[simp] theorem State.executing_windows (s : State) (k : Kind) : (s.executing k).windows = s.windows := rfl
@[simp] theorem State.executing_pc (s : State) (k : Kind) : (s.executing k).pc = s.pc := rfl
@[simp] theorem State.executing_npc (s : State) (k : Kind) : (s.executing k).npc = s.npc := rfl
@[simp] theorem State.executing_annul (s : State) (k : Kind) : (s.executing k).annul = s.annul := rfl
@[simp] theorem State.executing_psr (s : State) (k : Kind) : (s.executing k).psr = s.psr := rfl
@[simp] theorem State.executing_wim (s : State) (k : Kind) : (s.executing k).wim = s.wim := rfl
@[simp] theorem State.executing_tba (s : State) (k : Kind) : (s.executing k).tba = s.tba := rfl
@[simp] theorem State.executing_tt (s : State) (k : Kind) : (s.executing k).tt = s.tt := rfl
@[simp] theorem State.executing_y (s : State) (k : Kind) : (s.executing k).y = s.y := rfl
@[simp] theorem State.executing_fpu (s : State) (k : Kind) : (s.executing k).fpu = s.fpu := rfl
@[simp] theorem State.executing_cp (s : State) (k : Kind) : (s.executing k).cp = s.cp := rfl
@[simp] theorem State.executing_iu (s : State) (k : Kind) : (s.executing k).iu = s.iu := rfl
@[simp] theorem State.executing_pbError (s : State) (k : Kind) : (s.executing k).pbError = s.pbError := rfl
@[simp] theorem State.executing_inputs (s : State) (k : Kind) : (s.executing k).inputs = s.inputs := rfl
@[simp] theorem State.executing_coming (s : State) (k : Kind) : (s.executing k).coming = s.coming := rfl
@[simp] theorem State.executing_env (s : State) (k : Kind) : (s.executing k).env = s.env := rfl
@[simp] theorem State.executing_mem (s : State) (k : Kind) : (s.executing k).mem = s.mem := rfl
@[simp] theorem State.executing_flight (s : State) (k : Kind) : (s.executing k).flight = s.flight := rfl
@[simp] theorem State.executing_stale (s : State) (k : Kind) : (s.executing k).stale = s.stale := rfl
@[simp] theorem State.executing_prev (s : State) (k : Kind) : (s.executing k).prev = s.prev := rfl
@[simp] theorem State.executing_current (s : State) (k : Kind) : (s.executing k).current = k := rfl
@[simp] theorem State.executing_fetchOpen (s : State) (k : Kind) : (s.executing k).fetchOpen = false := rfl
@[simp] theorem State.executing_fpuSteps (s : State) (k : Kind) : (s.executing k).fpuSteps = s.fpuSteps := rfl
@[simp] theorem State.executing_tick (s : State) (k : Kind) : (s.executing k).tick = s.tick := rfl

/-! #### answered -/

@[simp] theorem State.answered_cfg (s : State) (a : EnvAnswer) : (s.answered a).cfg = s.cfg := rfl
@[simp] theorem State.answered_globals (s : State) (a : EnvAnswer) : (s.answered a).globals = s.globals := rfl
@[simp] theorem State.answered_windows (s : State) (a : EnvAnswer) : (s.answered a).windows = s.windows := rfl
@[simp] theorem State.answered_pc (s : State) (a : EnvAnswer) : (s.answered a).pc = s.pc := rfl
@[simp] theorem State.answered_npc (s : State) (a : EnvAnswer) : (s.answered a).npc = s.npc := rfl
@[simp] theorem State.answered_annul (s : State) (a : EnvAnswer) : (s.answered a).annul = s.annul := rfl
@[simp] theorem State.answered_psr (s : State) (a : EnvAnswer) : (s.answered a).psr = s.psr := rfl
@[simp] theorem State.answered_wim (s : State) (a : EnvAnswer) : (s.answered a).wim = s.wim := rfl
@[simp] theorem State.answered_tba (s : State) (a : EnvAnswer) : (s.answered a).tba = s.tba := rfl
@[simp] theorem State.answered_tt (s : State) (a : EnvAnswer) : (s.answered a).tt = s.tt := rfl
@[simp] theorem State.answered_y (s : State) (a : EnvAnswer) : (s.answered a).y = s.y := rfl
@[simp] theorem State.answered_fpu (s : State) (a : EnvAnswer) : (s.answered a).fpu = s.fpu := rfl
@[simp] theorem State.answered_cp (s : State) (a : EnvAnswer) : (s.answered a).cp = s.cp := rfl
@[simp] theorem State.answered_iu (s : State) (a : EnvAnswer) : (s.answered a).iu = s.iu := rfl
@[simp] theorem State.answered_pbError (s : State) (a : EnvAnswer) : (s.answered a).pbError = s.pbError := rfl
@[simp] theorem State.answered_inputs (s : State) (a : EnvAnswer) : (s.answered a).inputs = s.inputs := rfl
@[simp] theorem State.answered_coming (s : State) (a : EnvAnswer) : (s.answered a).coming = a.coming.getD s.coming := rfl
@[simp] theorem State.answered_env (s : State) (a : EnvAnswer) : (s.answered a).env = a.env := rfl
@[simp] theorem State.answered_mem (s : State) (a : EnvAnswer) : (s.answered a).mem = s.mem := rfl
@[simp] theorem State.answered_flight (s : State) (a : EnvAnswer) : (s.answered a).flight = s.flight := rfl
@[simp] theorem State.answered_stale (s : State) (a : EnvAnswer) : (s.answered a).stale = s.stale := rfl
@[simp] theorem State.answered_prev (s : State) (a : EnvAnswer) : (s.answered a).prev = s.prev := rfl
@[simp] theorem State.answered_current (s : State) (a : EnvAnswer) : (s.answered a).current = s.current := rfl
@[simp] theorem State.answered_fetchOpen (s : State) (a : EnvAnswer) : (s.answered a).fetchOpen = s.fetchOpen := rfl
@[simp] theorem State.answered_fpuSteps (s : State) (a : EnvAnswer) : (s.answered a).fpuSteps = s.fpuSteps := rfl
@[simp] theorem State.answered_tick (s : State) (a : EnvAnswer) : (s.answered a).tick = s.tick := rfl

/-! #### setCsr -/

@[simp] theorem State.setCsr_cfg (s : State) (v : Word) : (s.setCsr v).cfg = s.cfg := rfl
@[simp] theorem State.setCsr_globals (s : State) (v : Word) : (s.setCsr v).globals = s.globals := rfl
@[simp] theorem State.setCsr_windows (s : State) (v : Word) : (s.setCsr v).windows = s.windows := rfl
@[simp] theorem State.setCsr_pc (s : State) (v : Word) : (s.setCsr v).pc = s.pc := rfl
@[simp] theorem State.setCsr_npc (s : State) (v : Word) : (s.setCsr v).npc = s.npc := rfl
@[simp] theorem State.setCsr_annul (s : State) (v : Word) : (s.setCsr v).annul = s.annul := rfl
@[simp] theorem State.setCsr_psr (s : State) (v : Word) : (s.setCsr v).psr = s.psr := rfl
@[simp] theorem State.setCsr_wim (s : State) (v : Word) : (s.setCsr v).wim = s.wim := rfl
@[simp] theorem State.setCsr_tba (s : State) (v : Word) : (s.setCsr v).tba = s.tba := rfl
@[simp] theorem State.setCsr_tt (s : State) (v : Word) : (s.setCsr v).tt = s.tt := rfl
@[simp] theorem State.setCsr_y (s : State) (v : Word) : (s.setCsr v).y = s.y := rfl
@[simp] theorem State.setCsr_fpu (s : State) (v : Word) : (s.setCsr v).fpu = s.fpu := rfl
@[simp] theorem State.setCsr_cp (s : State) (v : Word) : (s.setCsr v).cp = { s.cp with csr := v } := rfl
@[simp] theorem State.setCsr_iu (s : State) (v : Word) : (s.setCsr v).iu = s.iu := rfl
@[simp] theorem State.setCsr_pbError (s : State) (v : Word) : (s.setCsr v).pbError = s.pbError := rfl
@[simp] theorem State.setCsr_inputs (s : State) (v : Word) : (s.setCsr v).inputs = s.inputs := rfl
@[simp] theorem State.setCsr_coming (s : State) (v : Word) : (s.setCsr v).coming = s.coming := rfl
@[simp] theorem State.setCsr_env (s : State) (v : Word) : (s.setCsr v).env = s.env := rfl
@[simp] theorem State.setCsr_mem (s : State) (v : Word) : (s.setCsr v).mem = s.mem := rfl
@[simp] theorem State.setCsr_flight (s : State) (v : Word) : (s.setCsr v).flight = s.flight := rfl
@[simp] theorem State.setCsr_stale (s : State) (v : Word) : (s.setCsr v).stale = s.stale := rfl
@[simp] theorem State.setCsr_prev (s : State) (v : Word) : (s.setCsr v).prev = s.prev := rfl
@[simp] theorem State.setCsr_current (s : State) (v : Word) : (s.setCsr v).current = s.current := rfl
@[simp] theorem State.setCsr_fetchOpen (s : State) (v : Word) : (s.setCsr v).fetchOpen = s.fetchOpen := rfl
@[simp] theorem State.setCsr_fpuSteps (s : State) (v : Word) : (s.setCsr v).fpuSteps = s.fpuSteps := rfl
@[simp] theorem State.setCsr_tick (s : State) (v : Word) : (s.setCsr v).tick = s.tick := rfl

/-! #### flushWord -/

@[simp] theorem State.flushWord_cfg (s : State) (addr : Word) : (s.flushWord addr).cfg = s.cfg := rfl
@[simp] theorem State.flushWord_globals (s : State) (addr : Word) : (s.flushWord addr).globals = s.globals := rfl
@[simp] theorem State.flushWord_windows (s : State) (addr : Word) : (s.flushWord addr).windows = s.windows := rfl
@[simp] theorem State.flushWord_pc (s : State) (addr : Word) : (s.flushWord addr).pc = s.pc := rfl
@[simp] theorem State.flushWord_npc (s : State) (addr : Word) : (s.flushWord addr).npc = s.npc := rfl
@[simp] theorem State.flushWord_annul (s : State) (addr : Word) : (s.flushWord addr).annul = s.annul := rfl
@[simp] theorem State.flushWord_psr (s : State) (addr : Word) : (s.flushWord addr).psr = s.psr := rfl
@[simp] theorem State.flushWord_wim (s : State) (addr : Word) : (s.flushWord addr).wim = s.wim := rfl
@[simp] theorem State.flushWord_tba (s : State) (addr : Word) : (s.flushWord addr).tba = s.tba := rfl
@[simp] theorem State.flushWord_tt (s : State) (addr : Word) : (s.flushWord addr).tt = s.tt := rfl
@[simp] theorem State.flushWord_y (s : State) (addr : Word) : (s.flushWord addr).y = s.y := rfl
@[simp] theorem State.flushWord_fpu (s : State) (addr : Word) : (s.flushWord addr).fpu = s.fpu := rfl
@[simp] theorem State.flushWord_cp (s : State) (addr : Word) : (s.flushWord addr).cp = s.cp := rfl
@[simp] theorem State.flushWord_iu (s : State) (addr : Word) : (s.flushWord addr).iu = s.iu := rfl
@[simp] theorem State.flushWord_pbError (s : State) (addr : Word) : (s.flushWord addr).pbError = s.pbError := rfl
@[simp] theorem State.flushWord_inputs (s : State) (addr : Word) : (s.flushWord addr).inputs = s.inputs := rfl
@[simp] theorem State.flushWord_coming (s : State) (addr : Word) : (s.flushWord addr).coming = s.coming := rfl
@[simp] theorem State.flushWord_env (s : State) (addr : Word) : (s.flushWord addr).env = s.env := rfl
@[simp] theorem State.flushWord_mem (s : State) (addr : Word) : (s.flushWord addr).mem = s.mem := rfl
@[simp] theorem State.flushWord_flight (s : State) (addr : Word) : (s.flushWord addr).flight = s.flight := rfl
@[simp] theorem State.flushWord_prev (s : State) (addr : Word) : (s.flushWord addr).prev = s.prev := rfl
@[simp] theorem State.flushWord_current (s : State) (addr : Word) : (s.flushWord addr).current = s.current := rfl
@[simp] theorem State.flushWord_fetchOpen (s : State) (addr : Word) : (s.flushWord addr).fetchOpen = s.fetchOpen := rfl
@[simp] theorem State.flushWord_fpuSteps (s : State) (addr : Word) : (s.flushWord addr).fpuSteps = s.fpuSteps := rfl
@[simp] theorem State.flushWord_tick (s : State) (addr : Word) : (s.flushWord addr).tick = s.tick := rfl

/-! #### setRegIn -/

@[simp] theorem State.setRegIn_cfg (s : State) (w : BitVec 5) (n : Reg) (v : Word) : (s.setRegIn w n v).cfg = s.cfg := by
  unfold State.setRegIn; split <;> (try split) <;> rfl
@[simp] theorem State.setRegIn_pc (s : State) (w : BitVec 5) (n : Reg) (v : Word) : (s.setRegIn w n v).pc = s.pc := by
  unfold State.setRegIn; split <;> (try split) <;> rfl
@[simp] theorem State.setRegIn_npc (s : State) (w : BitVec 5) (n : Reg) (v : Word) : (s.setRegIn w n v).npc = s.npc := by
  unfold State.setRegIn; split <;> (try split) <;> rfl
@[simp] theorem State.setRegIn_annul (s : State) (w : BitVec 5) (n : Reg) (v : Word) : (s.setRegIn w n v).annul = s.annul := by
  unfold State.setRegIn; split <;> (try split) <;> rfl
@[simp] theorem State.setRegIn_psr (s : State) (w : BitVec 5) (n : Reg) (v : Word) : (s.setRegIn w n v).psr = s.psr := by
  unfold State.setRegIn; split <;> (try split) <;> rfl
@[simp] theorem State.setRegIn_wim (s : State) (w : BitVec 5) (n : Reg) (v : Word) : (s.setRegIn w n v).wim = s.wim := by
  unfold State.setRegIn; split <;> (try split) <;> rfl
@[simp] theorem State.setRegIn_tba (s : State) (w : BitVec 5) (n : Reg) (v : Word) : (s.setRegIn w n v).tba = s.tba := by
  unfold State.setRegIn; split <;> (try split) <;> rfl
@[simp] theorem State.setRegIn_tt (s : State) (w : BitVec 5) (n : Reg) (v : Word) : (s.setRegIn w n v).tt = s.tt := by
  unfold State.setRegIn; split <;> (try split) <;> rfl
@[simp] theorem State.setRegIn_y (s : State) (w : BitVec 5) (n : Reg) (v : Word) : (s.setRegIn w n v).y = s.y := by
  unfold State.setRegIn; split <;> (try split) <;> rfl
@[simp] theorem State.setRegIn_fpu (s : State) (w : BitVec 5) (n : Reg) (v : Word) : (s.setRegIn w n v).fpu = s.fpu := by
  unfold State.setRegIn; split <;> (try split) <;> rfl
@[simp] theorem State.setRegIn_cp (s : State) (w : BitVec 5) (n : Reg) (v : Word) : (s.setRegIn w n v).cp = s.cp := by
  unfold State.setRegIn; split <;> (try split) <;> rfl
@[simp] theorem State.setRegIn_iu (s : State) (w : BitVec 5) (n : Reg) (v : Word) : (s.setRegIn w n v).iu = s.iu := by
  unfold State.setRegIn; split <;> (try split) <;> rfl
@[simp] theorem State.setRegIn_pbError (s : State) (w : BitVec 5) (n : Reg) (v : Word) : (s.setRegIn w n v).pbError = s.pbError := by
  unfold State.setRegIn; split <;> (try split) <;> rfl
@[simp] theorem State.setRegIn_inputs (s : State) (w : BitVec 5) (n : Reg) (v : Word) : (s.setRegIn w n v).inputs = s.inputs := by
  unfold State.setRegIn; split <;> (try split) <;> rfl
@[simp] theorem State.setRegIn_coming (s : State) (w : BitVec 5) (n : Reg) (v : Word) : (s.setRegIn w n v).coming = s.coming := by
  unfold State.setRegIn; split <;> (try split) <;> rfl
@[simp] theorem State.setRegIn_env (s : State) (w : BitVec 5) (n : Reg) (v : Word) : (s.setRegIn w n v).env = s.env := by
  unfold State.setRegIn; split <;> (try split) <;> rfl
@[simp] theorem State.setRegIn_mem (s : State) (w : BitVec 5) (n : Reg) (v : Word) : (s.setRegIn w n v).mem = s.mem := by
  unfold State.setRegIn; split <;> (try split) <;> rfl
@[simp] theorem State.setRegIn_flight (s : State) (w : BitVec 5) (n : Reg) (v : Word) : (s.setRegIn w n v).flight = s.flight := by
  unfold State.setRegIn; split <;> (try split) <;> rfl
@[simp] theorem State.setRegIn_stale (s : State) (w : BitVec 5) (n : Reg) (v : Word) : (s.setRegIn w n v).stale = s.stale := by
  unfold State.setRegIn; split <;> (try split) <;> rfl
@[simp] theorem State.setRegIn_prev (s : State) (w : BitVec 5) (n : Reg) (v : Word) : (s.setRegIn w n v).prev = s.prev := by
  unfold State.setRegIn; split <;> (try split) <;> rfl
@[simp] theorem State.setRegIn_current (s : State) (w : BitVec 5) (n : Reg) (v : Word) : (s.setRegIn w n v).current = s.current := by
  unfold State.setRegIn; split <;> (try split) <;> rfl
@[simp] theorem State.setRegIn_fetchOpen (s : State) (w : BitVec 5) (n : Reg) (v : Word) : (s.setRegIn w n v).fetchOpen = s.fetchOpen := by
  unfold State.setRegIn; split <;> (try split) <;> rfl
@[simp] theorem State.setRegIn_fpuSteps (s : State) (w : BitVec 5) (n : Reg) (v : Word) : (s.setRegIn w n v).fpuSteps = s.fpuSteps := by
  unfold State.setRegIn; split <;> (try split) <;> rfl
@[simp] theorem State.setRegIn_tick (s : State) (w : BitVec 5) (n : Reg) (v : Word) : (s.setRegIn w n v).tick = s.tick := by
  unfold State.setRegIn; split <;> (try split) <;> rfl

/-! #### setReg -/

@[simp] theorem State.setReg_cfg (s : State) (u : Use) (n : Reg) (v : Word) : (s.setReg u n v).cfg = s.cfg := by
  simp [State.setReg]
@[simp] theorem State.setReg_pc (s : State) (u : Use) (n : Reg) (v : Word) : (s.setReg u n v).pc = s.pc := by
  simp [State.setReg]
@[simp] theorem State.setReg_npc (s : State) (u : Use) (n : Reg) (v : Word) : (s.setReg u n v).npc = s.npc := by
  simp [State.setReg]
@[simp] theorem State.setReg_annul (s : State) (u : Use) (n : Reg) (v : Word) : (s.setReg u n v).annul = s.annul := by
  simp [State.setReg]
@[simp] theorem State.setReg_psr (s : State) (u : Use) (n : Reg) (v : Word) : (s.setReg u n v).psr = s.psr := by
  simp [State.setReg]
@[simp] theorem State.setReg_wim (s : State) (u : Use) (n : Reg) (v : Word) : (s.setReg u n v).wim = s.wim := by
  simp [State.setReg]
@[simp] theorem State.setReg_tba (s : State) (u : Use) (n : Reg) (v : Word) : (s.setReg u n v).tba = s.tba := by
  simp [State.setReg]
@[simp] theorem State.setReg_tt (s : State) (u : Use) (n : Reg) (v : Word) : (s.setReg u n v).tt = s.tt := by
  simp [State.setReg]
@[simp] theorem State.setReg_y (s : State) (u : Use) (n : Reg) (v : Word) : (s.setReg u n v).y = s.y := by
  simp [State.setReg]
@[simp] theorem State.setReg_fpu (s : State) (u : Use) (n : Reg) (v : Word) : (s.setReg u n v).fpu = s.fpu := by
  simp [State.setReg]
@[simp] theorem State.setReg_cp (s : State) (u : Use) (n : Reg) (v : Word) : (s.setReg u n v).cp = s.cp := by
  simp [State.setReg]
@[simp] theorem State.setReg_iu (s : State) (u : Use) (n : Reg) (v : Word) : (s.setReg u n v).iu = s.iu := by
  simp [State.setReg]
@[simp] theorem State.setReg_pbError (s : State) (u : Use) (n : Reg) (v : Word) : (s.setReg u n v).pbError = s.pbError := by
  simp [State.setReg]
@[simp] theorem State.setReg_inputs (s : State) (u : Use) (n : Reg) (v : Word) : (s.setReg u n v).inputs = s.inputs := by
  simp [State.setReg]
@[simp] theorem State.setReg_coming (s : State) (u : Use) (n : Reg) (v : Word) : (s.setReg u n v).coming = s.coming := by
  simp [State.setReg]
@[simp] theorem State.setReg_env (s : State) (u : Use) (n : Reg) (v : Word) : (s.setReg u n v).env = s.env := by
  simp [State.setReg]
@[simp] theorem State.setReg_mem (s : State) (u : Use) (n : Reg) (v : Word) : (s.setReg u n v).mem = s.mem := by
  simp [State.setReg]
@[simp] theorem State.setReg_flight (s : State) (u : Use) (n : Reg) (v : Word) : (s.setReg u n v).flight = s.flight := by
  simp [State.setReg]
@[simp] theorem State.setReg_stale (s : State) (u : Use) (n : Reg) (v : Word) : (s.setReg u n v).stale = s.stale := by
  simp [State.setReg]
@[simp] theorem State.setReg_prev (s : State) (u : Use) (n : Reg) (v : Word) : (s.setReg u n v).prev = s.prev := by
  simp [State.setReg]
@[simp] theorem State.setReg_current (s : State) (u : Use) (n : Reg) (v : Word) : (s.setReg u n v).current = s.current := by
  simp [State.setReg]
@[simp] theorem State.setReg_fetchOpen (s : State) (u : Use) (n : Reg) (v : Word) : (s.setReg u n v).fetchOpen = s.fetchOpen := by
  simp [State.setReg]
@[simp] theorem State.setReg_fpuSteps (s : State) (u : Use) (n : Reg) (v : Word) : (s.setReg u n v).fpuSteps = s.fpuSteps := by
  simp [State.setReg]
@[simp] theorem State.setReg_tick (s : State) (u : Use) (n : Reg) (v : Word) : (s.setReg u n v).tick = s.tick := by
  simp [State.setReg]

/-! #### noteStale -/

@[simp] theorem State.noteStale_cfg (s : State) (k : Nat) : (s.noteStale k).cfg = s.cfg := by
  unfold State.noteStale; split <;> rfl
@[simp] theorem State.noteStale_globals (s : State) (k : Nat) : (s.noteStale k).globals = s.globals := by
  unfold State.noteStale; split <;> rfl
@[simp] theorem State.noteStale_windows (s : State) (k : Nat) : (s.noteStale k).windows = s.windows := by
  unfold State.noteStale; split <;> rfl
@[simp] theorem State.noteStale_pc (s : State) (k : Nat) : (s.noteStale k).pc = s.pc := by
  unfold State.noteStale; split <;> rfl
@[simp] theorem State.noteStale_npc (s : State) (k : Nat) : (s.noteStale k).npc = s.npc := by
  unfold State.noteStale; split <;> rfl
@[simp] theorem State.noteStale_annul (s : State) (k : Nat) : (s.noteStale k).annul = s.annul := by
  unfold State.noteStale; split <;> rfl
@[simp] theorem State.noteStale_psr (s : State) (k : Nat) : (s.noteStale k).psr = s.psr := by
  unfold State.noteStale; split <;> rfl
@[simp] theorem State.noteStale_wim (s : State) (k : Nat) : (s.noteStale k).wim = s.wim := by
  unfold State.noteStale; split <;> rfl
@[simp] theorem State.noteStale_tba (s : State) (k : Nat) : (s.noteStale k).tba = s.tba := by
  unfold State.noteStale; split <;> rfl
@[simp] theorem State.noteStale_tt (s : State) (k : Nat) : (s.noteStale k).tt = s.tt := by
  unfold State.noteStale; split <;> rfl
@[simp] theorem State.noteStale_y (s : State) (k : Nat) : (s.noteStale k).y = s.y := by
  unfold State.noteStale; split <;> rfl
@[simp] theorem State.noteStale_fpu (s : State) (k : Nat) : (s.noteStale k).fpu = s.fpu := by
  unfold State.noteStale; split <;> rfl
@[simp] theorem State.noteStale_cp (s : State) (k : Nat) : (s.noteStale k).cp = s.cp := by
  unfold State.noteStale; split <;> rfl
@[simp] theorem State.noteStale_iu (s : State) (k : Nat) : (s.noteStale k).iu = s.iu := by
  unfold State.noteStale; split <;> rfl
@[simp] theorem State.noteStale_pbError (s : State) (k : Nat) : (s.noteStale k).pbError = s.pbError := by
  unfold State.noteStale; split <;> rfl
@[simp] theorem State.noteStale_inputs (s : State) (k : Nat) : (s.noteStale k).inputs = s.inputs := by
  unfold State.noteStale; split <;> rfl
@[simp] theorem State.noteStale_coming (s : State) (k : Nat) : (s.noteStale k).coming = s.coming := by
  unfold State.noteStale; split <;> rfl
@[simp] theorem State.noteStale_env (s : State) (k : Nat) : (s.noteStale k).env = s.env := by
  unfold State.noteStale; split <;> rfl
@[simp] theorem State.noteStale_mem (s : State) (k : Nat) : (s.noteStale k).mem = s.mem := by
  unfold State.noteStale; split <;> rfl
@[simp] theorem State.noteStale_flight (s : State) (k : Nat) : (s.noteStale k).flight = s.flight := by
  unfold State.noteStale; split <;> rfl
@[simp] theorem State.noteStale_prev (s : State) (k : Nat) : (s.noteStale k).prev = s.prev := by
  unfold State.noteStale; split <;> rfl
@[simp] theorem State.noteStale_current (s : State) (k : Nat) : (s.noteStale k).current = s.current := by
  unfold State.noteStale; split <;> rfl
@[simp] theorem State.noteStale_fetchOpen (s : State) (k : Nat) : (s.noteStale k).fetchOpen = s.fetchOpen := by
  unfold State.noteStale; split <;> rfl
@[simp] theorem State.noteStale_fpuSteps (s : State) (k : Nat) : (s.noteStale k).fpuSteps = s.fpuSteps := by
  unfold State.noteStale; split <;> rfl
@[simp] theorem State.noteStale_tick (s : State) (k : Nat) : (s.noteStale k).tick = s.tick := by
  unfold State.noteStale; split <;> rfl

/-! #### setLive -/

@[simp] theorem State.setLive_cfg (s : State) (f : Delayed) (v : Word) : (s.setLive f v).cfg = s.cfg := by cases f <;> rfl
@[simp] theorem State.setLive_globals (s : State) (f : Delayed) (v : Word) : (s.setLive f v).globals = s.globals := by cases f <;> rfl
@[simp] theorem State.setLive_windows (s : State) (f : Delayed) (v : Word) : (s.setLive f v).windows = s.windows := by cases f <;> rfl
@[simp] theorem State.setLive_pc (s : State) (f : Delayed) (v : Word) : (s.setLive f v).pc = s.pc := by cases f <;> rfl
@[simp] theorem State.setLive_npc (s : State) (f : Delayed) (v : Word) : (s.setLive f v).npc = s.npc := by cases f <;> rfl
@[simp] theorem State.setLive_annul (s : State) (f : Delayed) (v : Word) : (s.setLive f v).annul = s.annul := by cases f <;> rfl
@[simp] theorem State.setLive_tt (s : State) (f : Delayed) (v : Word) : (s.setLive f v).tt = s.tt := by cases f <;> rfl
@[simp] theorem State.setLive_fpu (s : State) (f : Delayed) (v : Word) : (s.setLive f v).fpu = s.fpu := by cases f <;> rfl
@[simp] theorem State.setLive_cp (s : State) (f : Delayed) (v : Word) : (s.setLive f v).cp = s.cp := by cases f <;> rfl
@[simp] theorem State.setLive_iu (s : State) (f : Delayed) (v : Word) : (s.setLive f v).iu = s.iu := by cases f <;> rfl
@[simp] theorem State.setLive_pbError (s : State) (f : Delayed) (v : Word) : (s.setLive f v).pbError = s.pbError := by cases f <;> rfl
@[simp] theorem State.setLive_inputs (s : State) (f : Delayed) (v : Word) : (s.setLive f v).inputs = s.inputs := by cases f <;> rfl
@[simp] theorem State.setLive_coming (s : State) (f : Delayed) (v : Word) : (s.setLive f v).coming = s.coming := by cases f <;> rfl
@[simp] theorem State.setLive_env (s : State) (f : Delayed) (v : Word) : (s.setLive f v).env = s.env := by cases f <;> rfl
@[simp] theorem State.setLive_mem (s : State) (f : Delayed) (v : Word) : (s.setLive f v).mem = s.mem := by cases f <;> rfl
@[simp] theorem State.setLive_flight (s : State) (f : Delayed) (v : Word) : (s.setLive f v).flight = s.flight := by cases f <;> rfl
@[simp] theorem State.setLive_stale (s : State) (f : Delayed) (v : Word) : (s.setLive f v).stale = s.stale := by cases f <;> rfl
@[simp] theorem State.setLive_prev (s : State) (f : Delayed) (v : Word) : (s.setLive f v).prev = s.prev := by cases f <;> rfl
@[simp] theorem State.setLive_current (s : State) (f : Delayed) (v : Word) : (s.setLive f v).current = s.current := by cases f <;> rfl
@[simp] theorem State.setLive_fetchOpen (s : State) (f : Delayed) (v : Word) : (s.setLive f v).fetchOpen = s.fetchOpen := by cases f <;> rfl
@[simp] theorem State.setLive_fpuSteps (s : State) (f : Delayed) (v : Word) : (s.setLive f v).fpuSteps = s.fpuSteps := by cases f <;> rfl
@[simp] theorem State.setLive_tick (s : State) (f : Delayed) (v : Word) : (s.setLive f v).tick = s.tick := by cases f <;> rfl

/-! #### putDelayed -/

@[simp] theorem State.putDelayed_cfg (s : State) (f : Delayed) (v : Word) : (s.putDelayed f v).cfg = s.cfg := by
  unfold State.putDelayed; split <;> simp
@[simp] theorem State.putDelayed_globals (s : State) (f : Delayed) (v : Word) : (s.putDelayed f v).globals = s.globals := by
  unfold State.putDelayed; split <;> simp
@[simp] theorem State.putDelayed_windows (s : State) (f : Delayed) (v : Word) : (s.putDelayed f v).windows = s.windows := by
  unfold State.putDelayed; split <;> simp
@[simp] theorem State.putDelayed_pc (s : State) (f : Delayed) (v : Word) : (s.putDelayed f v).pc = s.pc := by
  unfold State.putDelayed; split <;> simp
@[simp] theorem State.putDelayed_npc (s : State) (f : Delayed) (v : Word) : (s.putDelayed f v).npc = s.npc := by
  unfold State.putDelayed; split <;> simp
@[simp] theorem State.putDelayed_annul (s : State) (f : Delayed) (v : Word) : (s.putDelayed f v).annul = s.annul := by
  unfold State.putDelayed; split <;> simp
@[simp] theorem State.putDelayed_tt (s : State) (f : Delayed) (v : Word) : (s.putDelayed f v).tt = s.tt := by
  unfold State.putDelayed; split <;> simp
@[simp] theorem State.putDelayed_fpu (s : State) (f : Delayed) (v : Word) : (s.putDelayed f v).fpu = s.fpu := by
  unfold State.putDelayed; split <;> simp
@[simp] theorem State.putDelayed_cp (s : State) (f : Delayed) (v : Word) : (s.putDelayed f v).cp = s.cp := by
  unfold State.putDelayed; split <;> simp
@[simp] theorem State.putDelayed_iu (s : State) (f : Delayed) (v : Word) : (s.putDelayed f v).iu = s.iu := by
  unfold State.putDelayed; split <;> simp
@[simp] theorem State.putDelayed_pbError (s : State) (f : Delayed) (v : Word) : (s.putDelayed f v).pbError = s.pbError := by
  unfold State.putDelayed; split <;> simp
@[simp] theorem State.putDelayed_inputs (s : State) (f : Delayed) (v : Word) : (s.putDelayed f v).inputs = s.inputs := by
  unfold State.putDelayed; split <;> simp
@[simp] theorem State.putDelayed_coming (s : State) (f : Delayed) (v : Word) : (s.putDelayed f v).coming = s.coming := by
  unfold State.putDelayed; split <;> simp
@[simp] theorem State.putDelayed_env (s : State) (f : Delayed) (v : Word) : (s.putDelayed f v).env = s.env := by
  unfold State.putDelayed; split <;> simp
@[simp] theorem State.putDelayed_mem (s : State) (f : Delayed) (v : Word) : (s.putDelayed f v).mem = s.mem := by
  unfold State.putDelayed; split <;> simp
@[simp] theorem State.putDelayed_stale (s : State) (f : Delayed) (v : Word) : (s.putDelayed f v).stale = s.stale := by
  unfold State.putDelayed; split <;> simp
@[simp] theorem State.putDelayed_prev (s : State) (f : Delayed) (v : Word) : (s.putDelayed f v).prev = s.prev := by
  unfold State.putDelayed; split <;> simp
@[simp] theorem State.putDelayed_current (s : State) (f : Delayed) (v : Word) : (s.putDelayed f v).current = s.current := by
  unfold State.putDelayed; split <;> simp
@[simp] theorem State.putDelayed_fetchOpen (s : State) (f : Delayed) (v : Word) : (s.putDelayed f v).fetchOpen = s.fetchOpen := by
  unfold State.putDelayed; split <;> simp
@[simp] theorem State.putDelayed_fpuSteps (s : State) (f : Delayed) (v : Word) : (s.putDelayed f v).fpuSteps = s.fpuSteps := by
  unfold State.putDelayed; split <;> simp
@[simp] theorem State.putDelayed_tick (s : State) (f : Delayed) (v : Word) : (s.putDelayed f v).tick = s.tick := by
  unfold State.putDelayed; split <;> simp

/-! #### trapEntry -/

@[simp] theorem State.trapEntry_cfg (s : State) (t : Trap) : (s.trapEntry t).cfg = s.cfg := by
  simp [State.trapEntry]
@[simp] theorem State.trapEntry_globals (s : State) (t : Trap) : (s.trapEntry t).globals = ((s.setRegIn (windowBelow s.cfg (s.seeCwp .trapWindow)) 17 s.pc).setRegIn (windowBelow s.cfg (s.seeCwp .trapWindow)) 18 s.npc).globals := by
  simp [State.trapEntry]
@[simp] theorem State.trapEntry_windows (s : State) (t : Trap) : (s.trapEntry t).windows = ((s.setRegIn (windowBelow s.cfg (s.seeCwp .trapWindow)) 17 s.pc).setRegIn (windowBelow s.cfg (s.seeCwp .trapWindow)) 18 s.npc).windows := by
  simp [State.trapEntry]
@[simp] theorem State.trapEntry_pc (s : State) (t : Trap) : (s.trapEntry t).pc = tbrWord (s.seeTba .trapBase) (trapType t) := by
  simp [State.trapEntry]
@[simp] theorem State.trapEntry_npc (s : State) (t : Trap) : (s.trapEntry t).npc = tbrWord (s.seeTba .trapBase) (trapType t) + 4 := by
  simp [State.trapEntry]
@[simp] theorem State.trapEntry_annul (s : State) (t : Trap) : (s.trapEntry t).annul = false := by
  simp [State.trapEntry]
@[simp] theorem State.trapEntry_psr (s : State) (t : Trap) : (s.trapEntry t).psr = { s.psr with et := false, ps := s.seeBool .trapMode .s, s := true, cwp := windowBelow s.cfg (s.seeCwp .trapWindow) } := by
  simp [State.trapEntry]
@[simp] theorem State.trapEntry_wim (s : State) (t : Trap) : (s.trapEntry t).wim = s.wim := by
  simp [State.trapEntry]
@[simp] theorem State.trapEntry_tba (s : State) (t : Trap) : (s.trapEntry t).tba = s.tba := by
  simp [State.trapEntry]
@[simp] theorem State.trapEntry_tt (s : State) (t : Trap) : (s.trapEntry t).tt = trapType t := by
  simp [State.trapEntry]
@[simp] theorem State.trapEntry_y (s : State) (t : Trap) : (s.trapEntry t).y = s.y := by
  simp [State.trapEntry]
@[simp] theorem State.trapEntry_fpu (s : State) (t : Trap) : (s.trapEntry t).fpu = s.fpu := by
  simp [State.trapEntry]
@[simp] theorem State.trapEntry_cp (s : State) (t : Trap) : (s.trapEntry t).cp = s.cp := by
  simp [State.trapEntry]
@[simp] theorem State.trapEntry_iu (s : State) (t : Trap) : (s.trapEntry t).iu = s.iu := by
  simp [State.trapEntry]
@[simp] theorem State.trapEntry_pbError (s : State) (t : Trap) : (s.trapEntry t).pbError = s.pbError := by
  simp [State.trapEntry]
@[simp] theorem State.trapEntry_inputs (s : State) (t : Trap) : (s.trapEntry t).inputs = s.inputs := by
  simp [State.trapEntry]
@[simp] theorem State.trapEntry_coming (s : State) (t : Trap) : (s.trapEntry t).coming = s.coming := by
  simp [State.trapEntry]
@[simp] theorem State.trapEntry_env (s : State) (t : Trap) : (s.trapEntry t).env = s.env := by
  simp [State.trapEntry]
@[simp] theorem State.trapEntry_mem (s : State) (t : Trap) : (s.trapEntry t).mem = s.mem := by
  simp [State.trapEntry]
@[simp] theorem State.trapEntry_flight (s : State) (t : Trap) : (s.trapEntry t).flight = [] := by
  simp [State.trapEntry]
@[simp] theorem State.trapEntry_stale (s : State) (t : Trap) : (s.trapEntry t).stale = s.stale := by
  simp [State.trapEntry]
@[simp] theorem State.trapEntry_prev (s : State) (t : Trap) : (s.trapEntry t).prev = { s.prev with conditional := false, jmpl := false } := by
  simp [State.trapEntry]
@[simp] theorem State.trapEntry_current (s : State) (t : Trap) : (s.trapEntry t).current = s.current := by
  simp [State.trapEntry]
@[simp] theorem State.trapEntry_fetchOpen (s : State) (t : Trap) : (s.trapEntry t).fetchOpen = false := by
  simp [State.trapEntry]
@[simp] theorem State.trapEntry_fpuSteps (s : State) (t : Trap) : (s.trapEntry t).fpuSteps = s.fpuSteps := by
  simp [State.trapEntry]
@[simp] theorem State.trapEntry_tick (s : State) (t : Trap) : (s.trapEntry t).tick = s.tick := by
  simp [State.trapEntry]

/-! #### resetTrap -/

@[simp] theorem State.resetTrap_cfg (s : State) : (s.resetTrap).cfg = s.cfg := by
  simp only [State.resetTrap]; split <;> split <;> simp
@[simp] theorem State.resetTrap_pc (s : State) : (s.resetTrap).pc = 0 := rfl
@[simp] theorem State.resetTrap_npc (s : State) : (s.resetTrap).npc = 4 := rfl
@[simp] theorem State.resetTrap_annul (s : State) : (s.resetTrap).annul = false := rfl
@[simp] theorem State.resetTrap_wim (s : State) : (s.resetTrap).wim = s.wim := by
  simp only [State.resetTrap]; split <;> split <;> simp
@[simp] theorem State.resetTrap_tba (s : State) : (s.resetTrap).tba = s.tba := by
  simp only [State.resetTrap]; split <;> split <;> simp
@[simp] theorem State.resetTrap_tt (s : State) : (s.resetTrap).tt = s.tt := by
  simp only [State.resetTrap]; split <;> split <;> simp
@[simp] theorem State.resetTrap_y (s : State) : (s.resetTrap).y = s.y := by
  simp only [State.resetTrap]; split <;> split <;> simp
@[simp] theorem State.resetTrap_fpu (s : State) : (s.resetTrap).fpu = { s.fpu with mode := .execute, queue := [], fsr := { s.fpu.fsr with qne := s.freeBool .resetQne } } := rfl
@[simp] theorem State.resetTrap_cp (s : State) : (s.resetTrap).cp = Config.cpReset s.cp := rfl
@[simp] theorem State.resetTrap_iu (s : State) : (s.resetTrap).iu = .execute := rfl
@[simp] theorem State.resetTrap_pbError (s : State) : (s.resetTrap).pbError = false := rfl
@[simp] theorem State.resetTrap_inputs (s : State) : (s.resetTrap).inputs = s.inputs := by
  simp only [State.resetTrap]; split <;> split <;> simp
@[simp] theorem State.resetTrap_coming (s : State) : (s.resetTrap).coming = s.coming := by
  simp only [State.resetTrap]; split <;> split <;> simp
@[simp] theorem State.resetTrap_env (s : State) : (s.resetTrap).env = s.env := by
  simp only [State.resetTrap]; split <;> split <;> simp
@[simp] theorem State.resetTrap_mem (s : State) : (s.resetTrap).mem = s.mem := by
  simp only [State.resetTrap]; split <;> split <;> simp
@[simp] theorem State.resetTrap_flight (s : State) : (s.resetTrap).flight = [] := rfl
@[simp] theorem State.resetTrap_stale (s : State) : (s.resetTrap).stale = s.stale := by
  simp only [State.resetTrap]; split <;> split <;> simp
@[simp] theorem State.resetTrap_prev (s : State) : (s.resetTrap).prev = Kind.plain := rfl
@[simp] theorem State.resetTrap_current (s : State) : (s.resetTrap).current = s.current := by
  simp only [State.resetTrap]; split <;> split <;> simp
@[simp] theorem State.resetTrap_fetchOpen (s : State) : (s.resetTrap).fetchOpen = false := rfl
@[simp] theorem State.resetTrap_fpuSteps (s : State) : (s.resetTrap).fpuSteps = s.fpuSteps := by
  simp only [State.resetTrap]; split <;> split <;> simp
@[simp] theorem State.resetTrap_tick (s : State) : (s.resetTrap).tick = s.tick := by
  simp only [State.resetTrap]; split <;> split <;> simp

/-! #### runCp -/

@[simp] theorem State.runCp_cfg (s : State) : (s.runCp).cfg = s.cfg := by
  unfold State.runCp; split <;> rfl
@[simp] theorem State.runCp_globals (s : State) : (s.runCp).globals = s.globals := by
  unfold State.runCp; split <;> rfl
@[simp] theorem State.runCp_windows (s : State) : (s.runCp).windows = s.windows := by
  unfold State.runCp; split <;> rfl
@[simp] theorem State.runCp_pc (s : State) : (s.runCp).pc = s.pc := by
  unfold State.runCp; split <;> rfl
@[simp] theorem State.runCp_npc (s : State) : (s.runCp).npc = s.npc := by
  unfold State.runCp; split <;> rfl
@[simp] theorem State.runCp_annul (s : State) : (s.runCp).annul = s.annul := by
  unfold State.runCp; split <;> rfl
@[simp] theorem State.runCp_psr (s : State) : (s.runCp).psr = s.psr := by
  unfold State.runCp; split <;> rfl
@[simp] theorem State.runCp_wim (s : State) : (s.runCp).wim = s.wim := by
  unfold State.runCp; split <;> rfl
@[simp] theorem State.runCp_tba (s : State) : (s.runCp).tba = s.tba := by
  unfold State.runCp; split <;> rfl
@[simp] theorem State.runCp_tt (s : State) : (s.runCp).tt = s.tt := by
  unfold State.runCp; split <;> rfl
@[simp] theorem State.runCp_y (s : State) : (s.runCp).y = s.y := by
  unfold State.runCp; split <;> rfl
@[simp] theorem State.runCp_fpu (s : State) : (s.runCp).fpu = s.fpu := by
  unfold State.runCp; split <;> rfl
@[simp] theorem State.runCp_iu (s : State) : (s.runCp).iu = s.iu := by
  unfold State.runCp; split <;> rfl
@[simp] theorem State.runCp_pbError (s : State) : (s.runCp).pbError = s.pbError := by
  unfold State.runCp; split <;> rfl
@[simp] theorem State.runCp_inputs (s : State) : (s.runCp).inputs = s.inputs := by
  unfold State.runCp; split <;> rfl
@[simp] theorem State.runCp_coming (s : State) : (s.runCp).coming = s.coming := by
  unfold State.runCp; split <;> rfl
@[simp] theorem State.runCp_env (s : State) : (s.runCp).env = s.env := by
  unfold State.runCp; split <;> rfl
@[simp] theorem State.runCp_mem (s : State) : (s.runCp).mem = s.mem := by
  unfold State.runCp; split <;> rfl
@[simp] theorem State.runCp_flight (s : State) : (s.runCp).flight = s.flight := by
  unfold State.runCp; split <;> rfl
@[simp] theorem State.runCp_stale (s : State) : (s.runCp).stale = s.stale := by
  unfold State.runCp; split <;> rfl
@[simp] theorem State.runCp_prev (s : State) : (s.runCp).prev = s.prev := by
  unfold State.runCp; split <;> rfl
@[simp] theorem State.runCp_current (s : State) : (s.runCp).current = s.current := by
  unfold State.runCp; split <;> rfl
@[simp] theorem State.runCp_fetchOpen (s : State) : (s.runCp).fetchOpen = s.fetchOpen := by
  unfold State.runCp; split <;> rfl
@[simp] theorem State.runCp_fpuSteps (s : State) : (s.runCp).fpuSteps = s.fpuSteps := by
  unfold State.runCp; split <;> rfl
@[simp] theorem State.runCp_tick (s : State) : (s.runCp).tick = s.tick := by
  unfold State.runCp; split <;> rfl

end Sys2Proof.Machine
end

