-- ==== Sys2Proof/Laws/Memory.lean ====
section
/-! SUPPORT. Memory: reading after writing, the canonical form, and what each access of an instruction can do. -/

namespace Sys2Proof.Machine

/-! ### One byte -/

theorem Memory.get_of_all_above (m : List Host.Cell) (k : Nat) (h : ∀ p ∈ m, k < p.1) :
    Memory.get m k = unlistedByte := by
  induction m with
  | nil => rfl
  | cons p rest ih =>
    have hk : k < p.1 := h p (by simp)
    have : ¬ p.1 = k := by omega
    simp only [Memory.get, this, if_false]
    exact ih fun q hq => h q (by simp [hq])

theorem Memory.wf_cons (p : Host.Cell) (rest : List Host.Cell) :
    Memory.wf (p :: rest) = true ↔ p.2 ≠ unlistedByte ∧ (∀ q ∈ rest, p.1 < q.1) ∧ Memory.wf rest = true := by
  simp [Memory.wf, and_assoc]

/-- A byte reads as it was written, and every other byte as before. -/
theorem Memory.get_set (m : List Host.Cell) (k j : Nat) (b : Byte) (h : Memory.wf m = true) :
    Memory.get (Memory.set m k b) j = if j = k then b else Memory.get m j := by
  induction m with
  | nil =>
    by_cases hb : b = unlistedByte
    · simp only [Memory.set, hb, if_true, Memory.get]
      split <;> rfl
    · simp only [Memory.set, hb, if_false, Memory.get]
      by_cases hj : j = k
      · simp [hj]
      · have : ¬ k = j := fun e => hj e.symm
        simp [hj, this]
  | cons p rest ih =>
    obtain ⟨a, c⟩ := p
    obtain ⟨hc, hlt, hrest⟩ := (Memory.wf_cons _ _).1 h
    simp only [Memory.set]
    by_cases h1 : k < a
    · simp only [h1, if_true]
      have hk : ∀ p ∈ (a, c) :: rest, k < p.1 := by
        intro p hp
        rcases List.mem_cons.1 hp with rfl | hp
        · exact h1
        · exact Nat.lt_trans h1 (hlt p hp)
      by_cases hb : b = unlistedByte
      · simp only [hb, if_true]
        by_cases hj : j = k
        · subst hj; simp only [if_true]; exact Memory.get_of_all_above _ _ hk
        · simp [hj]
      · simp only [hb, if_false]
        by_cases hj : j = k
        · subst hj; simp [Memory.get]
        · have : ¬ k = j := fun e => hj e.symm
          simp only [Memory.get, this, if_false, hj]
    · simp only [h1, if_false]
      by_cases h2 : k = a
      · subst h2
        simp only [if_true]
        by_cases hb : b = unlistedByte
        · simp only [hb, if_true]
          by_cases hj : j = k
          · subst hj
            simp only [if_true]
            exact Memory.get_of_all_above _ _ hlt
          · have : ¬ k = j := fun e => hj e.symm
            simp only [hj, if_false, Memory.get, this]
        · simp only [hb, if_false, Memory.get]
          by_cases hj : j = k
          · subst hj; simp
          · have : ¬ k = j := fun e => hj e.symm
            simp [hj, this]
      · simp only [h2, if_false, Memory.get]
        by_cases ha : a = j
        · subst ha
          have : ¬ a = k := fun e => h2 e.symm
          simp [this]
        · simp only [ha, if_false]
          exact ih hrest

/-- The keys of a memory after a write are those before, and the one written. -/
theorem Memory.mem_set (m : List Host.Cell) (k : Nat) (b : Byte) (p : Host.Cell) (hp : p ∈ Memory.set m k b) :
    p.1 = k ∨ p ∈ m := by
  induction m with
  | nil =>
    by_cases hb : b = unlistedByte
    · simp [Memory.set, hb] at hp
    · simp [Memory.set, hb] at hp; left; rw [hp]
  | cons q rest ih =>
    obtain ⟨a, c⟩ := q
    simp only [Memory.set] at hp
    split at hp
    · split at hp
      · exact .inr hp
      · rcases List.mem_cons.1 hp with rfl | hp
        · exact .inl rfl
        · exact .inr hp
    · split at hp
      · split at hp
        · exact .inr (List.mem_cons_of_mem _ hp)
        · rcases List.mem_cons.1 hp with rfl | hp
          · exact .inl rfl
          · exact .inr (List.mem_cons_of_mem _ hp)
      · rcases List.mem_cons.1 hp with rfl | hp
        · exact .inr (by simp)
        · rcases ih hp with h | h
          · exact .inl h
          · exact .inr (List.mem_cons_of_mem _ h)

/-- A write keeps the canonical form. -/
theorem Memory.set_wf (m : List Host.Cell) (k : Nat) (b : Byte) (h : Memory.wf m = true) :
    Memory.wf (Memory.set m k b) = true := by
  induction m with
  | nil =>
    by_cases hb : b = unlistedByte
    · simp [Memory.set, hb, Memory.wf]
    · simp only [Memory.set, hb, if_false]
      exact (Memory.wf_cons _ _).2 ⟨hb, by simp, rfl⟩
  | cons q rest ih =>
    obtain ⟨a, c⟩ := q
    have h' := h
    obtain ⟨hc, hlt, hrest⟩ := (Memory.wf_cons _ _).1 h
    simp only [Memory.set]
    split
    · next hk =>
      split
      · exact h'
      · next hb =>
        refine (Memory.wf_cons _ _).2 ⟨hb, ?_, h'⟩
        intro p hp
        rcases List.mem_cons.1 hp with rfl | hp
        · exact hk
        · exact Nat.lt_trans hk (hlt p hp)
    · split
      · next hk =>
        split
        · exact hrest
        · next hb => exact (Memory.wf_cons _ _).2 ⟨hb, by simpa [hk] using hlt, hrest⟩
      · next hk1 hk2 =>
        refine (Memory.wf_cons _ _).2 ⟨hc, ?_, ih hrest⟩
        intro p hp
        rcases Memory.mem_set _ _ _ _ hp with h | h
        · simp only [h]; omega
        · exact hlt p h

/-! ### A masked word -/

theorem Memory.setIf_wf (c : Bool) (m : List Host.Cell) (k : Nat) (b : Byte) (h : Memory.wf m = true) :
    Memory.wf (if c then Memory.set m k b else m) = true := by
  cases c
  · exact h
  · exact Memory.set_wf m k b h

theorem Memory.get_setIf (c : Bool) (m : List Host.Cell) (k : Nat) (b : Byte) (j : Nat) (h : Memory.wf m = true) :
    Memory.get (if c then Memory.set m k b else m) j = if j = k ∧ c = true then b else Memory.get m j := by
  cases c
  · simp
  · simp [Memory.get_set _ _ _ _ h]

theorem Memory.setMasked_wf (m : List Host.Cell) (k : Nat) (mask : BitVec 4) (w : Word) (h : Memory.wf m = true) :
    Memory.wf (Memory.setMasked m k mask w) = true :=
  Memory.setIf_wf _ _ _ _ (Memory.setIf_wf _ _ _ _ (Memory.setIf_wf _ _ _ _ (Memory.setIf_wf _ _ _ _ h)))

/-- Every byte after a masked write: the four of the word where the mask selects them, every other as before. -/
theorem Memory.get_setMasked (m : List Host.Cell) (k : Nat) (mask : BitVec 4) (w : Word) (j : Nat)
    (h : Memory.wf m = true) :
    Memory.get (Memory.setMasked m k mask w) j =
      if j = k ∧ mask.getLsbD 3 = true then byteOfWord w 0
      else if j = k + 1 ∧ mask.getLsbD 2 = true then byteOfWord w 1
      else if j = k + 2 ∧ mask.getLsbD 1 = true then byteOfWord w 2
      else if j = k + 3 ∧ mask.getLsbD 0 = true then byteOfWord w 3
      else Memory.get m j := by
  have s0 := Memory.setIf_wf (mask.getLsbD 3) m k (byteOfWord w 0) h
  have s1 := Memory.setIf_wf (mask.getLsbD 2) _ (k + 1) (byteOfWord w 1) s0
  have s2 := Memory.setIf_wf (mask.getLsbD 1) _ (k + 2) (byteOfWord w 2) s1
  simp only [Memory.setMasked]
  rw [Memory.get_setIf _ _ _ _ _ s2, Memory.get_setIf _ _ _ _ _ s1, Memory.get_setIf _ _ _ _ _ s0,
    Memory.get_setIf _ _ _ _ _ h]
  have d1 : ¬ (k + 3 = k) := by omega
  have d2 : ¬ (k + 3 = k + 1) := by omega
  have d3 : ¬ (k + 3 = k + 2) := by omega
  have d4 : ¬ (k + 2 = k) := by omega
  have d5 : ¬ (k + 2 = k + 1) := by omega
  have d6 : ¬ (k + 1 = k) := by omega
  by_cases e0 : j = k
  · subst e0; simp
  · by_cases e1 : j = k + 1
    · subst e1; simp
    · by_cases e2 : j = k + 2
      · subst e2; simp
      · by_cases e3 : j = k + 3
        · subst e3; simp
        · simp [e0, e1, e2, e3]

/-! ### The accesses of an instruction -/

/-- A store either signals an exception and changes nothing, or is handed to a device, or writes the masked bytes at the key of
its address; nothing else changes but the list of stale words. -/
theorem State.memoryWrite_some {s t : State} {asi : Byte} {addr : Word} {mask : BitVec 4} {data : Word}
    (h : s.memoryWrite asi addr mask data = some t) :
    (s.onDevice asi addr = true ∧ t = { s with env := t.env, coming := t.coming }) ∨
      ∃ k, s.locate .write asi addr = some k ∧
        t = { s with mem := Memory.setMasked s.mem k mask data, stale := t.stale } := by
  unfold State.memoryWrite at h
  split at h
  · next hd =>
    obtain ⟨_, _, rfl⟩ := Option.map_eq_some_iff.1 h
    exact .inl ⟨hd, rfl⟩
  · obtain ⟨k, hk, rfl⟩ := Option.map_eq_some_iff.1 h
    refine .inr ⟨k, hk, ?_⟩
    unfold State.noteStale
    split <;> rfl

/-- What a store can change. -/
theorem State.memoryWrite_only {s t : State} {asi : Byte} {addr : Word} {mask : BitVec 4} {data : Word}
    (h : s.memoryWrite asi addr mask data = some t) :
    t = { s with mem := t.mem, stale := t.stale, env := t.env, coming := t.coming } := by
  rcases State.memoryWrite_some h with ⟨-, e⟩ | ⟨k, -, e⟩ <;> rw [e]

theorem State.memoryWrite_wf {s t : State} {asi : Byte} {addr : Word} {mask : BitVec 4} {data : Word}
    (h : s.memoryWrite asi addr mask data = some t) (hw : Memory.wf s.mem = true) : Memory.wf t.mem = true := by
  rcases State.memoryWrite_some h with ⟨-, e⟩ | ⟨k, -, e⟩ <;> rw [e]
  · exact hw
  · exact Memory.setMasked_wf _ _ _ _ hw

/-- An address that is located is no device's. -/
theorem State.not_onDevice {s : State} {acc : Access} {asi : Byte} {addr : Word} {k : Nat}
    (h : s.locate acc asi addr = some k) : s.onDevice asi addr = false := by
  cases hd : s.onDevice asi addr
  · rfl
  · simp [State.locate, hd] at h

/-- A write of storage, where the address is located. -/
theorem State.memoryWrite_located {s : State} {asi : Byte} {addr : Word} {mask : BitVec 4} {data : Word} {k : Nat}
    (h : s.locate .write asi addr = some k) :
    s.memoryWrite asi addr mask data = some { s.noteStale k with mem := Memory.setMasked s.mem k mask data } := by
  simp [State.memoryWrite, State.not_onDevice h, h]

/-- A write that no device answers signals an exception where the address is not located. -/
theorem State.memoryWrite_refused {s : State} {asi : Byte} {addr : Word} {mask : BitVec 4} {data : Word}
    (hd : s.onDevice asi addr = false) (h : s.locate .write asi addr = none) : s.memoryWrite asi addr mask data = none := by
  simp [State.memoryWrite, hd, h]

/-- What a read can change: the environment. -/
theorem State.memoryRead_only (s : State) (acc : Access) (asi : Byte) (addr : Word) (mask : BitVec 4) :
    (s.memoryRead acc asi addr mask).1 =
      { s with env := (s.memoryRead acc asi addr mask).1.env, coming := (s.memoryRead acc asi addr mask).1.coming } := by
  unfold State.memoryRead
  split <;> rfl

/-- A read of storage, where the address is located. -/
theorem State.memoryRead_located {s : State} {acc : Access} {asi : Byte} {addr : Word} {k : Nat}
    (h : s.locate acc asi addr = some k) (mask : BitVec 4) :
    s.memoryRead acc asi addr mask = (s, some (Memory.word s.mem k)) := by
  simp [State.memoryRead, State.not_onDevice h, h]

/-- A read that no device answers signals an exception where the address is not located. -/
theorem State.memoryRead_refused {s : State} {acc : Access} {asi : Byte} {addr : Word}
    (hd : s.onDevice asi addr = false) (h : s.locate acc asi addr = none) (mask : BitVec 4) :
    s.memoryRead acc asi addr mask = (s, none) := by
  simp [State.memoryRead, hd, h]

/-- What an address is located at depends on the parameters alone. -/
theorem State.locate_congr {s t : State} (h : t.cfg = s.cfg) (acc : Access) (asi : Byte) (addr : Word) :
    t.locate acc asi addr = s.locate acc asi addr := by
  simp [State.locate, State.onDevice, h]

/-- Whether a device is at an address depends on the parameters alone. -/
theorem State.onDevice_congr {s t : State} (h : t.cfg = s.cfg) (asi : Byte) (addr : Word) :
    t.onDevice asi addr = s.onDevice asi addr := by
  simp [State.onDevice, h]

/-- The memory right after reset is in the canonical form. -/
theorem State.reset_mem_wf : Memory.wf State.reset.mem = true := rfl

theorem State.placeWord_mem_wf (s : State) (w : Word) (h : Memory.wf s.mem = true) :
    Memory.wf (s.placeWord w).mem = true := by
  simp only [State.placeWord]
  exact Memory.setMasked_wf _ _ _ _ h

end Sys2Proof.Machine
end

