-- ==== Sys2Proof/Laws/Ops.lean ====
section
/-! SUPPORT. What each shared operation can do, once: uses of delayed-written fields, registers, completing, transfers, traps and
the guards of the instructions. -/

namespace Sys2Proof.Machine

/-! ### Uses of a delayed-written field -/

/-- A use sees the value, or an old value in flight. -/
theorem State.see_mem (s : State) (u : Use) (f : Delayed) : s.see u f = s.live f ∨ s.see u f ∈ s.olds f := by
  unfold State.see
  split
  · exact .inl rfl
  · rename_i olds h
    generalize Config.free s.tick u % _ = i
    cases i with
    | zero => exact .inl rfl
    | succ n =>
      simp only [List.getD_cons_succ]
      by_cases hn : n < (s.olds f).length
      · right
        rw [List.getD_eq_getElem _ _ hn]
        exact List.getElem_mem hn
      · left
        rw [List.getD_eq_default]
        omega

theorem State.olds_of_quiet {s : State} (h : s.quiet) (f : Delayed) : s.olds f = [] := by
  unfold State.quiet at h
  simp [State.olds, h]

theorem State.see_of_olds {s : State} {f : Delayed} (h : s.olds f = []) (u : Use) : s.see u f = s.live f := by
  simp [State.see, h]

theorem State.see_quiet {s : State} (h : s.quiet) (u : Use) (f : Delayed) : s.see u f = s.live f :=
  State.see_of_olds (State.olds_of_quiet h f) u

theorem State.settled_quiet {s : State} (h : s.quiet) (f : Delayed) : s.settled f = [] := by
  unfold State.quiet at h
  simp [State.settled, h]

theorem wordOfBool_bit (b : Bool) : (wordOfBool b).getLsbD 0 = b := by cases b <;> rfl
theorem wordOfBool_getElem (b : Bool) : (wordOfBool b)[0] = b := by cases b <;> rfl

theorem iccOfBits_iccBits (i : Icc) : iccOfBits (iccBits i) = i := by
  obtain ⟨n, z, v, c⟩ := i
  cases n <;> cases z <;> cases v <;> cases c <;> rfl

section Quiet
variable {s : State} (h : s.quiet) (u : Use)
include h
theorem State.seeEc_quiet : s.seeBool u .ec = s.psr.ec := by
  simp [State.seeBool, State.see_quiet h, State.live, wordOfBool_getElem]
theorem State.seeEf_quiet : s.seeBool u .ef = s.psr.ef := by
  simp [State.seeBool, State.see_quiet h, State.live, wordOfBool_getElem]
theorem State.seeS_quiet : s.seeBool u .s = s.psr.s := by
  simp [State.seeBool, State.see_quiet h, State.live, wordOfBool_getElem]
theorem State.seePs_quiet : s.seeBool u .ps = s.psr.ps := by
  simp [State.seeBool, State.see_quiet h, State.live, wordOfBool_getElem]
theorem State.seeEt_quiet : s.seeBool u .et = s.psr.et := by
  simp [State.seeBool, State.see_quiet h, State.live, wordOfBool_getElem]
theorem State.seeIcc_quiet : s.seeIcc u = s.psr.icc := by
  simp [State.seeIcc, State.see_quiet h, State.live, iccOfBits_iccBits]
theorem State.seePil_quiet : s.seePil u = s.psr.pil := by
  simp [State.seePil, State.see_quiet h, State.live]
theorem State.seeCwp_quiet : s.seeCwp u = s.psr.cwp := by
  simp [State.seeCwp, State.see_quiet h, State.live]
theorem State.seeTba_quiet : s.seeTba u = s.tba := by
  simp [State.seeTba, State.see_quiet h, State.live]
theorem State.seeWim_quiet : s.see u .wim = s.wim := by simp [State.see_quiet h, State.live]
theorem State.seeY_quiet : s.see u .y = s.y := by simp [State.see_quiet h, State.live]
theorem State.reg_quiet (n : Reg) : s.reg u n = s.r n := by simp [State.reg, State.r, State.seeCwp_quiet h]
theorem State.setReg_quiet (n : Reg) (v : Word) : s.setReg u n v = s.setRegIn s.psr.cwp n v := by
  simp [State.setReg, State.seeCwp_quiet h]
end Quiet

section QuietOperands
variable {s : State} (h : s.quiet)
include h
theorem State.op2val_quiet (src : Operand2) : s.op2val src = s.operand src := by
  cases src <;> simp [State.op2val, State.operand, State.reg_quiet h]
theorem State.ea_quiet (rs1 : Reg) (src : Operand2) : s.ea rs1 src = s.address rs1 src := by
  simp [State.ea, State.address, State.reg_quiet h, State.op2val_quiet h]
theorem State.eaAlternate_quiet (rs1 rs2 : Reg) : s.eaAlternate rs1 rs2 = s.addressA rs1 rs2 := by
  simp [State.eaAlternate, State.addressA, State.reg_quiet h]
theorem State.dataAsi_quiet : s.dataAsi = s.space := by simp [State.dataAsi, State.space, State.seeS_quiet h]
theorem State.carryWord_quiet : s.carryWord = wordOfBool s.psr.icc.c := by
  simp [State.carryWord, State.seeIcc_quiet h]
end QuietOperands

/-! ### Registers -/

theorem State.regIn_congr {s t : State} (hg : t.globals = s.globals) (hw : t.windows = s.windows) (hc : t.cfg = s.cfg)
    (w : BitVec 5) (n : Reg) : t.regIn w n = s.regIn w n := by
  simp [State.regIn, hg, hw, hc]

@[simp] theorem State.regIn_zero (s : State) (w : BitVec 5) : s.regIn w 0#5 = 0#32 := by simp [State.regIn]

@[simp] theorem State.setRegIn_zero (s : State) (w : BitVec 5) (v : Word) : s.setRegIn w 0#5 v = s := by
  simp [State.setRegIn]

theorem vector_get_set {α : Type} {m : Nat} (xs : Vector α m) (i j : Fin m) (x : α) :
    (xs.set i.val x i.isLt).get j = if i = j then x else xs.get j := by
  have h : ∀ ys : Vector α m, ys.get j = ys[j.val] := fun _ => rfl
  rw [h, h, Vector.getElem_set]
  by_cases e : i = j
  · simp [e]
  · have : ¬ i.val = j.val := fun q => e (Fin.ext q)
    simp [e, this]

theorem globalCell_inj {n n' : Reg} (h0 : n ≠ 0#5) (h0' : n' ≠ 0#5) (h : n.toNat < 8) (h' : n'.toNat < 8)
    (e : globalCell n = globalCell n') : n = n' := by
  have e' : (n.toNat - 1) % 7 = (n'.toNat - 1) % 7 := congrArg Fin.val e
  have z : n.toNat ≠ 0 := fun q => h0 (BitVec.eq_of_toNat_eq q)
  have z' : n'.toNat ≠ 0 := fun q => h0' (BitVec.eq_of_toNat_eq q)
  apply BitVec.eq_of_toNat_eq
  omega

theorem State.setRegIn_global {s : State} {w : BitVec 5} {n : Reg} {v : Word} (h0 : n ≠ 0#5) (h : n.toNat < 8) :
    s.setRegIn w n v = { s with globals := s.globals.set (globalCell n).val v (globalCell n).isLt } := by
  unfold State.setRegIn
  rw [if_neg (show ¬ n = 0 from h0), if_pos h]

theorem State.setRegIn_window {s : State} {w : BitVec 5} {n : Reg} {v : Word} (h : ¬ n.toNat < 8) :
    s.setRegIn w n v = { s with windows := s.windows.set (windowCell s.cfg w n).val v (windowCell s.cfg w n).isLt } := by
  unfold State.setRegIn
  rw [if_neg (fun q => h (by rw [q]; decide)), if_neg h]

theorem State.regIn_global {s : State} {w : BitVec 5} {n : Reg} (h0 : n ≠ 0#5) (h : n.toNat < 8) :
    s.regIn w n = s.globals.get (globalCell n) := by
  unfold State.regIn
  rw [if_neg (show ¬ n = 0 from h0), if_pos h]

theorem State.regIn_window {s : State} {w : BitVec 5} {n : Reg} (h : ¬ n.toNat < 8) :
    s.regIn w n = s.windows.get (windowCell s.cfg w n) := by
  unfold State.regIn
  rw [if_neg (fun q => h (by rw [q]; decide)), if_neg h]

/-- A register after a write: the value, where it is the one written and not r[0]; else as before. -/
theorem State.regIn_setRegIn (s : State) (w : BitVec 5) (n : Reg) (v : Word) (w' : BitVec 5) (n' : Reg) :
    (s.setRegIn w n v).regIn w' n' =
      if n' ≠ 0#5 ∧ (if n.toNat < 8 then n' = n else 8 ≤ n'.toNat ∧ windowCell s.cfg w n = windowCell s.cfg w' n') then v
      else s.regIn w' n' := by
  by_cases h0' : n' = 0#5
  · subst h0'; simp
  by_cases h0 : n = 0#5
  · subst h0
    rw [State.setRegIn_zero, if_neg]
    rintro ⟨-, h⟩
    exact h0' (by simpa using h)
  by_cases h8 : n.toNat < 8
  · simp only [h8, if_true]
    rw [State.setRegIn_global h0 h8]
    by_cases h8' : n'.toNat < 8
    · rw [State.regIn_global h0' h8', State.regIn_global h0' h8']
      show (s.globals.set (globalCell n).val v (globalCell n).isLt).get _ = _
      rw [vector_get_set]
      by_cases e : n' = n
      · subst e
        rw [if_pos rfl, if_pos ⟨h0', rfl⟩]
      · rw [if_neg (fun q => e (globalCell_inj h0 h0' h8 h8' q).symm), if_neg (fun q => e q.2)]
    · rw [State.regIn_window h8', State.regIn_window h8', if_neg]
      rintro ⟨-, q⟩
      exact h8' (q ▸ h8)
  · simp only [h8, if_false]
    rw [State.setRegIn_window h8]
    by_cases h8' : n'.toNat < 8
    · rw [State.regIn_global h0' h8', State.regIn_global h0' h8', if_neg]
      rintro ⟨-, q, -⟩
      omega
    · rw [State.regIn_window h8', State.regIn_window h8']
      show (s.windows.set (windowCell s.cfg w n).val v (windowCell s.cfg w n).isLt).get _ = _
      rw [vector_get_set]
      by_cases e : windowCell s.cfg w n = windowCell s.cfg w' n'
      · rw [if_pos e, if_pos ⟨h0', by omega, e⟩]
      · rw [if_neg e, if_neg (fun q => e q.2.2)]

/-- The register written holds the value, or, where it is r[0], 0. -/
theorem State.setRegIn_holds (s : State) (w : BitVec 5) (n : Reg) (v : Word) : Holds (s.setRegIn w n v) w n v := by
  unfold Holds
  by_cases h0 : n = 0#5
  · subst h0; simp
  · rw [State.regIn_setRegIn, if_neg (show ¬ n = 0 from h0), if_pos]
    refine ⟨h0, ?_⟩
    split
    · rfl
    · exact ⟨by omega, rfl⟩

/-- Every other register is as before. -/
theorem State.setRegIn_kept (s : State) (w : BitVec 5) (n : Reg) (v : Word) : RegsKeptBut s (s.setRegIn w n v) w n := by
  intro w' n' h
  rw [State.regIn_setRegIn, if_neg]
  exact fun q => h q.2

/-! ### Completing -/

theorem advance_advanced (s : State) : Advanced s s.advance := ⟨rfl, rfl⟩

/-- An instruction that writes r[rd] and completes. -/
theorem writesReg_of_quiet {s : State} (h : s.quiet) (u : Use) (rd : Reg) (v : Word) :
    WritesReg s (.next ((s.setReg u rd v).advance)) rd v := by
  rw [State.setReg_quiet h]
  refine ⟨_, rfl, ⟨by simp, by simp⟩, ?_, ?_, ?_, ?_⟩
  · unfold Holds
    rw [State.regIn_congr (s := s.setRegIn s.psr.cwp rd v) (by simp) (by simp) (by simp)]
    exact State.setRegIn_holds s _ rd v
  · intro w' n' hn
    rw [State.regIn_congr (s := s.setRegIn s.psr.cwp rd v) (by simp) (by simp) (by simp)]
    exact State.setRegIn_kept s _ rd v w' n' hn
  · intro k; simp
  · unfold OnlyRegs
    unfold State.setRegIn
    split
    · rfl
    · split <;> rfl

/-- An instruction that writes r[rd] and icc and completes. -/
theorem writesRegIcc_of_quiet {s : State} (h : s.quiet) (rd : Reg) (v : Word) (i : Icc) :
    WritesRegIcc s (.next (s.writeFlagged rd v i)) rd v i := by
  have hs : s.flight = [] := h
  unfold State.writeFlagged
  rw [State.setReg_quiet h]
  refine ⟨_, rfl, ⟨by simp, by simp⟩, ?_, by simp, ?_, ?_, ?_⟩
  · unfold Holds
    rw [State.regIn_congr (s := s.setRegIn s.psr.cwp rd v) (by simp) (by simp) (by simp)]
    exact State.setRegIn_holds s _ rd v
  · intro w' n' hn
    rw [State.regIn_congr (s := s.setRegIn s.psr.cwp rd v) (by simp) (by simp) (by simp)]
    exact State.setRegIn_kept s _ rd v w' n' hn
  · intro k; simp
  · unfold OnlyRegsIcc
    unfold State.setRegIn State.putIcc State.settled
    split
    · simp [Completed, State.unflushed, State.advance, State.retire, State.setPcs, hs]
    · split <;> simp [Completed, State.unflushed, State.advance, State.retire, State.setPcs, hs]

/-- An instruction that does nothing but complete. -/
theorem passes_advance (s : State) : Passes s (.next s.advance) :=
  ⟨_, rfl, advance_advanced s, rfl, fun _ _ => rfl, fun _ => rfl, rfl⟩

/-! ### Traps -/

/-- What taking a trap can do: nothing, where reset is requested next; a trap's entry; error_mode. -/
theorem State.takeTrap_cases (s : State) (t : Trap) :
    (s.resetAhead = true ∧ s.takeTrap t = s) ∨
      (s.resetAhead = false ∧ s.seeBool .trapEnable .et = true ∧ s.takeTrap t = s.trapEntry t) ∨
      (s.resetAhead = false ∧ s.seeBool .trapEnable .et = false ∧ s.takeTrap t = s.enterErrorMode) := by
  unfold State.takeTrap
  cases s.resetAhead <;> cases s.seeBool .trapEnable .et <;> simp

/-- A trap's entry, no delayed write in flight. -/
theorem trapEntered_of_quiet {s : State} (h : s.quiet) (t : Trap) : TrapEntered s (s.trapEntry t) (trapType t) := by
  have hs : s.flight = [] := h
  simp only [TrapEntered, State.trapEntry_tt, State.trapEntry_psr, State.trapEntry_pc, State.trapEntry_npc,
    State.trapEntry_annul, State.seeS_quiet h, State.seeCwp_quiet h, State.seeTba_quiet h, tbrWord,
    true_and]
  have hne : ∀ w : BitVec 5, windowCell s.cfg w 18 ≠ windowCell s.cfg w 17 := by
    intro w e
    have e' := congrArg Fin.val e
    simp only [windowCell] at e'
    have d1 : (18 : Reg).toNat = 18 := rfl
    have d2 : (17 : Reg).toNat = 17 := rfl
    rw [d1, d2] at e'
    have hn : 2 ≤ nwindows s.cfg := by unfold nwindows; omega
    rcases Nat.lt_or_ge ((17 - 8 + 16 * w.toNat) % (16 * nwindows s.cfg) + 1) (16 * nwindows s.cfg) with hlt | hge
    · have : (18 - 8 + 16 * w.toNat) % (16 * nwindows s.cfg) = (17 - 8 + 16 * w.toNat) % (16 * nwindows s.cfg) + 1 := by
        have : 18 - 8 + 16 * w.toNat = (17 - 8 + 16 * w.toNat) + 1 := by omega
        rw [this, Nat.add_mod, Nat.mod_eq_of_lt (a := 1) (by omega), Nat.mod_eq_of_lt hlt]
      omega
    · have : (18 - 8 + 16 * w.toNat) % (16 * nwindows s.cfg) = 0 := by
        have l := Nat.mod_lt (17 - 8 + 16 * w.toNat) (y := 16 * nwindows s.cfg) (by omega)
        have : 18 - 8 + 16 * w.toNat = (17 - 8 + 16 * w.toNat) + 1 := by omega
        rw [this, Nat.add_mod, Nat.mod_eq_of_lt (a := 1) (by omega)]
        have : (17 - 8 + 16 * w.toNat) % (16 * nwindows s.cfg) + 1 = 16 * nwindows s.cfg := by omega
        rw [this, Nat.mod_self]
      omega
  have hr : ∀ w n, (s.trapEntry t).regIn w n =
      ((s.setRegIn (windowBelow s.cfg s.psr.cwp) 17 s.pc).setRegIn (windowBelow s.cfg s.psr.cwp) 18 s.npc).regIn w n := by
    intro w n
    apply State.regIn_congr <;> simp [State.seeCwp_quiet h]
  refine ⟨?_, ?_, ?_, fun k => by simp, ?_⟩
  · rw [hr, State.regIn_setRegIn, if_neg]
    · exact State.setRegIn_holds s _ 17 s.pc
    · rintro ⟨-, h1⟩
      rw [if_neg (by decide)] at h1
      exact hne _ (by simpa using h1.2)
  · rw [hr]
    exact State.setRegIn_holds _ _ 18 s.npc
  · intro w' n' h1 h2
    rw [hr, State.setRegIn_kept (s.setRegIn _ 17 s.pc) _ 18 s.npc w' n' (by simpa [sameCell] using h2)]
    exact State.setRegIn_kept s _ 17 s.pc w' n' h1
  · have e : ∀ (s : State) (w : BitVec 5) (n : Reg) (v : Word),
        s.setRegIn w n v = { s with globals := (s.setRegIn w n v).globals, windows := (s.setRegIn w n v).windows } := by
      intro s w n v
      unfold State.setRegIn
      split
      · rfl
      · split <;> rfl
    simp only [State.trapEntry, State.seeCwp_quiet h, State.seeTba_quiet h, State.seeS_quiet h]
    rw [e (s.setRegIn _ 17 s.pc), e s]
    simp [hs, tbrWord]

/-- A trap with traps enabled, no delayed write in flight: its entry. -/
theorem traps_of_quiet {s : State} (h : s.quiet) (he : s.psr.et = true) (t : Trap) :
    Traps s (.next (s.takeTrap t)) (trapType t) := by
  refine ⟨_, rfl, ?_⟩
  rcases State.takeTrap_cases s t with ⟨hr, e⟩ | ⟨hr, -, e⟩ | ⟨-, he', -⟩
  · rw [if_pos hr, e]
  · rw [hr, e]; exact trapEntered_of_quiet h t
  · rw [State.seeEt_quiet h, he] at he'; cases he'

theorem errorEntered (s : State) : ErrorEntered s s.enterErrorMode :=
  ⟨rfl, rfl, rfl, fun _ => rfl, fun _ _ => rfl, rfl⟩

/-- A trap with traps disabled, no delayed write in flight: error_mode. -/
theorem errs_of_quiet {s : State} (h : s.quiet) (he : s.psr.et = false) (t : Trap) : Errs s (.next (s.takeTrap t)) := by
  refine ⟨_, rfl, ?_⟩
  rcases State.takeTrap_cases s t with ⟨hr, e⟩ | ⟨-, he', -⟩ | ⟨hr, -, e⟩
  · rw [if_pos hr, e]
  · rw [State.seeEt_quiet h, he] at he'; cases he'
  · rw [hr, e]; exact errorEntered s

/-! ### Guards -/

/-- A privileged instruction in supervisor mode, and in user mode. -/
theorem State.privileged_supervisor {s : State} (h : s.quiet) (hs : s.psr.s = true) (body : State → State) :
    s.privileged body = body s := by
  simp [State.privileged, State.seeS_quiet h, hs]

theorem State.privileged_user {s : State} (h : s.quiet) (hs : s.psr.s = false) (body : State → State) :
    s.privileged body = s.takeTrap .privilegedInstruction := by
  simp [State.privileged, State.seeS_quiet h, hs]

theorem State.holdWhile_nil {s : State} (hq : s.fpu.queue = []) (wait : List FqEntry → Bool) : s.holdWhile wait = s := by
  simp [State.holdWhile, hq, State.fpuStepsWhile]

/-- A floating-point instruction whose unit is ready. -/
theorem State.fpGuard_ready {s : State} (h : s.fpReady) (body : State → State) : s.fpGuard body = body s := by
  obtain ⟨hq, hef, hp, hm, hn⟩ := h
  have hd : s.fpDisabled = false := by simp [State.fpDisabled, State.seeEf_quiet hq, hef, hp]
  simp [State.fpGuard, hd, hm]

/-- No wait where nothing is queued. -/
theorem State.fpHold_nil {s : State} (hq : s.fpu.queue = []) (hm : s.fpu.mode ≠ .exceptionPending)
    (wait : List FqEntry → Bool) (body : State → State) : s.fpHold wait body = body s := by
  simp [State.fpHold, State.holdWhile_nil hq, hm]

/-- No wait where the unit is ready. -/
theorem State.fpHold_ready {s : State} (h : s.fpReady) (wait : List FqEntry → Bool) (body : State → State) :
    s.fpHold wait body = body s :=
  State.fpHold_nil h.2.2.2.2 (by rw [h.2.2.2.1]; decide) wait body

/-- A coprocessor instruction whose unit is ready. -/
theorem State.cpGuard_ready {s : State} (h : s.cpReady) (body : State → State) : s.cpGuard body = body s := by
  obtain ⟨hq, hec, hp, hm⟩ := h
  have hd : s.cpDisabled = false := by simp [State.cpDisabled, State.seeEc_quiet hq, hec, hp]
  simp [State.cpGuard, hd, hm]

/-! ### Transfers -/

/-- A delayed control transfer that no conditional branch comes directly before. -/
theorem transfers_of_uncoupled {s : State} (h : s.prev.conditional = false) (target : Word) (annul : Bool) :
    Transfers s (.next (s.transfer target annul)) target annul := by
  refine ⟨_, rfl, ?_⟩
  cases annul <;> simp only [State.transfer, h] <;>
    exact ⟨rfl, rfl, by simp, fun _ _ => rfl, fun _ => rfl, rfl⟩

/-! ### Delayed writes -/

/-- A delayed write: the value is in force, and the old one, where it differs, may be seen by three instructions. -/
theorem State.putDelayed_flight (s : State) (f : Delayed) (v : Word) :
    (s.putDelayed f v).flight = if s.live f = v then s.flight else ⟨f, s.live f, 3⟩ :: s.flight := by
  unfold State.putDelayed
  split <;> simp [*]

theorem mem_ageFlight {l : List InFlight} {p : InFlight} (h : p ∈ ageFlight l) :
    ∃ q ∈ l, p.field = q.field ∧ p.old = q.old ∧ p.left + 1 = q.left := by
  simp only [ageFlight, List.mem_map, List.mem_filter] at h
  obtain ⟨q, ⟨hq, hl⟩, rfl⟩ := h
  refine ⟨q, hq, rfl, rfl, ?_⟩
  have : q.left ≠ 0 := by simpa using hl
  simp only
  omega

end Sys2Proof.Machine
end

