-- ==== Sys2Proof/Laws/Cases.lean ====
section
/-! SUPPORT. Each shared operation of the instructions, as the list of what it can come to; no proof need unfold one. -/

namespace Sys2Proof.Machine

/-! ### Traps and guards -/

theorem State.privileged_cases (s : State) (body : State → State) :
    (s.seeBool .privilege .s = true ∧ s.privileged body = body s) ∨
      (s.seeBool .privilege .s = false ∧ s.privileged body = s.takeTrap .privilegedInstruction) := by
  unfold State.privileged
  cases s.seeBool .privilege .s <;> simp

theorem State.cpGuard_cases (s : State) (body : State → State) :
    (s.cpDisabled = true ∧ s.cpGuard body = s.takeTrap .cpDisabled) ∨
      (s.cpDisabled = false ∧ s.cpPending = true ∧
        s.cpGuard body = (s.setCp { s.cp with mode := .exception }).takeTrap .cpException) ∨
      (s.cpDisabled = false ∧ s.cpPending = false ∧ s.cpGuard body = body s) := by
  unfold State.cpGuard
  cases s.cpDisabled <;> cases s.cpPending <;> simp

theorem State.fpGuard_cases (s : State) (body : State → State) :
    (s.fpDisabled = true ∧ s.fpGuard body = s.takeTrap .fpDisabled) ∨
      (s.fpDisabled = false ∧ s.fpu.mode = .exceptionPending ∧ s.fpGuard body = s.fpExceptionTrap) ∨
      (s.fpDisabled = false ∧ s.fpu.mode ≠ .exceptionPending ∧ s.fpGuard body = body s) := by
  unfold State.fpGuard
  cases s.fpDisabled <;> by_cases h : s.fpu.mode = .exceptionPending <;> simp [h]

/-- After the wait the FPU has stopped, and the trap is taken, or the instruction goes on. -/
theorem State.fpHold_cases (s : State) (wait : List FqEntry → Bool) (body : State → State) :
    ((s.holdWhile wait).fpu.mode = .exceptionPending ∧ s.fpHold wait body = (s.holdWhile wait).fpExceptionTrap) ∨
      ((s.holdWhile wait).fpu.mode ≠ .exceptionPending ∧ s.fpHold wait body = body (s.holdWhile wait)) := by
  unfold State.fpHold
  by_cases h : (s.holdWhile wait).fpu.mode = .exceptionPending <;> simp [h]

theorem State.fpop_cases (s : State) (fn : FpFn) (rd rs1 rs2 : Reg) (word : Word) :
    (s.fpDisabled = true ∧ s.fpop fn rd rs1 rs2 word = s.takeTrap .fpDisabled) ∨
      (s.fpDisabled = false ∧ s.fpu.mode = .exceptionPending ∧ s.fpop fn rd rs1 rs2 word = s.fpExceptionTrap) ∨
      (s.fpDisabled = false ∧ s.fpu.mode = .exception ∧ s.fpop fn rd rs1 rs2 word = s.sequenceError.advance) ∨
      (s.fpDisabled = false ∧ s.fpu.mode ≠ .exceptionPending ∧ s.fpu.mode ≠ .exception ∧
        ∃ s1, s1 = s.holdWhile (fun q => decide (queueDepth s.cfg ≤ q.length)) ∧
          ((queueDepth s.cfg ≤ s1.fpu.queue.length ∧ s.fpop fn rd rs1 rs2 word = s1.fpExceptionTrap) ∨
            (s1.fpu.queue.length < queueDepth s.cfg ∧
              s.fpop fn rd rs1 rs2 word = (s1.accept ⟨s.pc, word, fn, rd, rs1, rs2⟩).advance))) := by
  unfold State.fpop
  cases s.fpDisabled
  · by_cases h : s.fpu.mode = .exceptionPending
    · simp [h]
    · by_cases h2 : s.fpu.mode = .exception
      · simp [h2]
      · refine .inr (.inr (.inr ⟨rfl, h, h2, _, rfl, ?_⟩))
        by_cases h3 : queueDepth s.cfg ≤ (s.holdWhile (fun q => decide (queueDepth s.cfg ≤ q.length))).fpu.queue.length
        · exact .inl ⟨h3, by simp [h, h2, h3]⟩
        · exact .inr ⟨by omega, by simp [h, h2, h3]⟩
  · simp

/-! ### Loads and stores -/

theorem State.loadReg_cases (s : State) (rd : Reg) (isAligned : Bool) (r : State × Option Word) :
    (isAligned = false ∧ s.loadReg rd isAligned r = s.takeTrap .memAddressNotAligned) ∨
      (isAligned = true ∧ r.2 = none ∧ s.loadReg rd isAligned r = r.1.takeTrap .dataAccessException) ∨
      (isAligned = true ∧ ∃ v, r.2 = some v ∧ s.loadReg rd isAligned r = (r.1.setReg .rdWrite rd v).advance) := by
  obtain ⟨s1, r⟩ := r
  unfold State.loadReg
  cases isAligned <;> cases r <;> simp

theorem State.loadDouble_cases (s : State) (asi : Byte) (a : Word) (rd : Reg) :
    (aligned a 8 = false ∧ s.loadDouble asi a rd = s.takeTrap .memAddressNotAligned) ∨
      (aligned a 8 = true ∧ ∃ s1, s.readWord asi a = (s1, none) ∧
        s.loadDouble asi a rd = s1.takeTrap .dataAccessException) ∨
      (aligned a 8 = true ∧ ∃ s1 w0, s.readWord asi a = (s1, some w0) ∧
        ((∃ s2, (s1.setReg .rdWrite (evenOf rd) w0).readWord asi (a + 4) = (s2, none) ∧
            s.loadDouble asi a rd = s2.takeTrap .dataAccessException) ∨
          ∃ s2 w1, (s1.setReg .rdWrite (evenOf rd) w0).readWord asi (a + 4) = (s2, some w1) ∧
            s.loadDouble asi a rd = (s2.setReg .rdWriteOdd (oddOf rd) w1).advance)) := by
  unfold State.loadDouble
  cases aligned a 8
  · simp
  · rcases h : s.readWord asi a with ⟨s1, _ | w0⟩
    · simp
    · refine .inr (.inr ⟨rfl, s1, w0, rfl, ?_⟩)
      rcases h1 : (s1.setReg .rdWrite (evenOf rd) w0).readWord asi (a + 4#32) with ⟨s2, _ | w1⟩
      · exact .inl ⟨s2, rfl, by simp [h1]⟩
      · exact .inr ⟨s2, w1, rfl, by simp [h1]⟩

theorem State.store_cases (s : State) (isAligned : Bool) (r : Option State) :
    (isAligned = false ∧ s.store isAligned r = s.takeTrap .memAddressNotAligned) ∨
      (isAligned = true ∧ r = none ∧ s.store isAligned r = s.takeTrap .dataAccessException) ∨
      (isAligned = true ∧ ∃ s1, r = some s1 ∧ s.store isAligned r = s1.advance) := by
  unfold State.store
  cases isAligned <;> cases r <;> simp

theorem State.storePair_cases (s : State) (asi : Byte) (a v0 v1 : Word) :
    (aligned a 8 = false ∧ s.storePair asi a v0 v1 = s.takeTrap .memAddressNotAligned) ∨
      (aligned a 8 = true ∧ s.writeWord asi a v0 = none ∧ s.storePair asi a v0 v1 = s.takeTrap .dataAccessException) ∨
      (aligned a 8 = true ∧ ∃ s1, s.writeWord asi a v0 = some s1 ∧
        ((s1.writeWord asi (a + 4) v1 = none ∧ s.storePair asi a v0 v1 = s1.takeTrap .dataAccessException) ∨
          ∃ s2, s1.writeWord asi (a + 4) v1 = some s2 ∧ s.storePair asi a v0 v1 = s2.advance)) := by
  unfold State.storePair
  cases aligned a 8
  · simp
  · cases h : s.writeWord asi a v0 with
    | none => simp
    | some s1 =>
      refine .inr (.inr ⟨rfl, s1, rfl, ?_⟩)
      cases h1 : s1.writeWord asi (a + 4#32) v1 <;> simp [h1]

theorem State.loadStoreByte_cases (s : State) (asi : Byte) (a : Word) (rd : Reg) :
    (∃ s1, s.readByte asi a = (s1, none) ∧ s.loadStoreByte asi a rd = s1.takeTrap .dataAccessException) ∨
      ∃ s1 b, s.readByte asi a = (s1, some b) ∧ ∃ s2, s2 = s1.setReg .rdWrite rd (b.setWidth 32) ∧
        ((s2.writeByte asi a 0xFF#8 = none ∧ s.loadStoreByte asi a rd = s2.takeTrap .dataAccessException) ∨
          ∃ s3, s2.writeByte asi a 0xFF#8 = some s3 ∧ s.loadStoreByte asi a rd = s3.advance) := by
  unfold State.loadStoreByte
  rcases h : s.readByte asi a with ⟨s1, _ | b⟩
  · exact .inl ⟨s1, rfl, rfl⟩
  · refine .inr ⟨s1, b, rfl, _, rfl, ?_⟩
    cases h1 : (s1.setReg .rdWrite rd (b.setWidth 32)).writeByte asi a 0xFF#8 <;> simp [h1]

theorem State.swapWord_cases (s : State) (asi : Byte) (a : Word) (rd : Reg) :
    (aligned a 4 = false ∧ s.swapWord asi a rd = s.takeTrap .memAddressNotAligned) ∨
      (aligned a 4 = true ∧ ∃ s1, s.readWord asi a = (s1, none) ∧
        s.swapWord asi a rd = s1.takeTrap .dataAccessException) ∨
      (aligned a 4 = true ∧ ∃ s1 w, s.readWord asi a = (s1, some w) ∧ ∃ s2, s2 = s1.setReg .rdWrite rd w ∧
        ((s2.writeWord asi a (s.reg .rdRead rd) = none ∧ s.swapWord asi a rd = s2.takeTrap .dataAccessException) ∨
          ∃ s3, s2.writeWord asi a (s.reg .rdRead rd) = some s3 ∧ s.swapWord asi a rd = s3.advance)) := by
  unfold State.swapWord
  cases aligned a 4
  · simp
  · rcases h : s.readWord asi a with ⟨s1, _ | w⟩
    · exact .inr (.inl ⟨rfl, s1, rfl, by simp⟩)
    · refine .inr (.inr ⟨rfl, s1, w, rfl, _, rfl, ?_⟩)
      cases h1 : (s1.setReg .rdWrite rd w).writeWord asi a (s.reg .rdRead rd) <;> simp [h1]

theorem State.loadSingleFp_cases (s : State) (asi : Byte) (a : Word) (rd : Reg) :
    (aligned a 4 = false ∧ s.loadSingleFp asi a rd = s.takeTrap .memAddressNotAligned) ∨
      (aligned a 4 = true ∧ ∃ s1, s.readWord asi a = (s1, none) ∧
        s.loadSingleFp asi a rd = (s1.keepOrConstant 0 rd).takeTrap .dataAccessException) ∨
      (aligned a 4 = true ∧ ∃ s1 w, s.readWord asi a = (s1, some w) ∧
        s.loadSingleFp asi a rd = (s1.loadFreg 0 rd w).loadDone s.fpu.mode) := by
  unfold State.loadSingleFp
  cases aligned a 4
  · simp
  · rcases h : s.readWord asi a with ⟨s1, _ | w⟩ <;> simp

theorem State.putLoadedFsr_cases (s : State) (w : Word) :
    s.putLoadedFsr w = (s.setFsr (fsrLoad s.fpu.fsr w)).loadDone s.fpu.mode ∨
      (s.fpu.mode ≠ .execute ∧ s.putLoadedFsr w = s.loadDone s.fpu.mode) := by
  unfold State.putLoadedFsr
  by_cases hl : s.fpu.mode ≠ .execute ∧ s.freeBool .fsrLoaded = true
  · exact .inr ⟨hl.1, by simp [hl.1, hl.2]⟩
  · exact .inl (by simp [hl])

theorem State.loadFsr_cases (s : State) (asi : Byte) (a : Word) :
    (aligned a 4 = false ∧ s.loadFsr asi a = s.takeTrap .memAddressNotAligned) ∨
      (aligned a 4 = true ∧ ∃ s1, s.readWord asi a = (s1, none) ∧ s.loadFsr asi a = s1.takeTrap .dataAccessException) ∨
      (aligned a 4 = true ∧ ∃ s1 w, s.readWord asi a = (s1, some w) ∧
        (((s1.holdWhile waitAll).fpu.mode = .exceptionPending ∧
            s.loadFsr asi a = (s1.holdWhile waitAll).fpExceptionTrap) ∨
          s.loadFsr asi a = (s1.holdWhile waitAll).putLoadedFsr w)) := by
  unfold State.loadFsr
  cases aligned a 4
  · simp
  · rcases h : s.readWord asi a with ⟨s1, _ | w⟩
    · exact .inr (.inl ⟨rfl, s1, rfl, by simp⟩)
    · refine .inr (.inr ⟨rfl, s1, w, rfl, ?_⟩)
      by_cases hl : (s1.holdWhile waitAll).fpu.mode = .exceptionPending ∧ (s1.holdWhile waitAll).freeBool .held = true
      · exact .inl ⟨hl.1, by simp [hl.1, hl.2]⟩
      · exact .inr (by simp [hl])

theorem State.storeFsr_cases (s : State) (asi : Byte) (a : Word) :
    (aligned a 4 = false ∧ s.storeFsr asi a = s.takeTrap .memAddressNotAligned) ∨
      (aligned a 4 = true ∧
        s.storeFsr asi a = s.fpHold waitAll fun s => s.store true (s.writeWord asi a (fsrWord s.fpu.fsr))) := by
  unfold State.storeFsr
  cases aligned a 4 <;> simp

theorem State.loadCp_cases (s : State) (asi : Byte) (a : Word) (put : State → Word → State) :
    (aligned a 4 = false ∧ s.loadCp asi a put = s.takeTrap .memAddressNotAligned) ∨
      (aligned a 4 = true ∧ ∃ s1, s.readWord asi a = (s1, none) ∧ s.loadCp asi a put = s1.cpLoadTrap) ∨
      (aligned a 4 = true ∧ ∃ s1 w, s.readWord asi a = (s1, some w) ∧
        s.loadCp asi a put = (put s1 w).cpLoaded.advance) := by
  unfold State.loadCp
  cases aligned a 4
  · simp
  · rcases h : s.readWord asi a with ⟨s1, _ | w⟩ <;> simp

/-! ### Windows, branches, transfers -/

theorem State.changeWindow_cases (s : State) (w : BitVec 5) (t : Trap) (rd : Reg) (v : Word) :
    ((s.see .windowMask .wim).getLsbD w.toNat = true ∧ s.changeWindow w t rd v = s.takeTrap t) ∨
      ((s.see .windowMask .wim).getLsbD w.toNat = false ∧
        s.changeWindow w t rd v = ((s.putCwp w).setRegIn w rd v).advance) := by
  unfold State.changeWindow
  cases (s.see .windowMask .wim).getLsbD w.toNat <;> simp

theorem State.trapOn_cases (s : State) (test : Icc → Bool) (rs1 : Reg) (src : Operand2) :
    (test (s.seeIcc .condition) = true ∧
        s.trapOn test rs1 src = s.takeTrap (.trapInstruction ((s.ea rs1 src).extractLsb' 0 7))) ∨
      (test (s.seeIcc .condition) = false ∧ s.trapOn test rs1 src = s.advance) := by
  unfold State.trapOn
  cases test (s.seeIcc .condition) <;> simp

theorem State.transfer_cases (s : State) (target : Word) (annul : Bool) :
    (s.transfer target annul).annul = (s.annul || annul) ∧
      ((s.prev.conditional = false ∧ (s.transfer target annul).pc = s.npc ∧ (s.transfer target annul).npc = target) ∨
        (s.prev.conditional = true ∧ (s.transfer target annul).pc = s.freeAddress .couplePc ∧
          (s.transfer target annul).npc = s.freeAddress .coupleNpc)) := by
  unfold State.transfer
  cases annul <;> cases h : s.prev.conditional <;> simp

theorem State.branch_cases (s : State) (taken annul : Bool) (disp : BitVec 22) :
    (taken = true ∧ s.branch taken annul disp = s.transfer (branchTarget s.pc disp) false) ∨
      (taken = false ∧ s.branch taken annul disp = s.transfer (s.npc + 4) annul) := by
  unfold State.branch
  cases taken <;> simp

/-- In exception mode STDFQ stores the front entry. -/
theorem State.queueWords_exception {s : State} {e : FqEntry} {rest : List FqEntry} (h : s.fpu.mode = .exception)
    (q : s.fpu.queue = e :: rest) : s.queueWords = (e.addr, e.instr) := by
  unfold State.queueWords
  rw [h, q]

end Sys2Proof.Machine
end

