-- ==== Sys2Proof/Laws/Cycle.lean ====
section
/-! SUPPORT. What a step begins with, and the targets of branches and traps as arithmetic. -/

namespace Sys2Proof.Machine

/-- Nothing ages where nothing is in flight. -/
theorem ageFlight_quiet {s : State} (h : s.quiet) : ageFlight s.flight = [] := by
  unfold State.quiet at h
  simp [h, ageFlight]

/-- In execute_mode with no coming inputs, no delayed write in flight and sequential units, a step begins with a new draw of free
values and nothing else. -/
theorem State.beginStep_quiet {s : State} (hi : s.iu = .execute) (hc : s.coming = []) (h : s.quiet)
    (hu : s.unitsSequential) : s.beginStep = { s with tick := s.tick + 1 } := by
  have := ageFlight_quiet h
  obtain ⟨hf, hcp⟩ := hu
  unfold State.quiet at h
  obtain ⟨⟩ := s
  simp_all [State.beginStep, State.sampleInputs, State.runFpu, State.runCp]

/-- Outside execute_mode with no coming inputs, a step begins with a new draw of free values and nothing else. -/
theorem State.beginStep_other {s : State} (hi : s.iu ≠ .execute) (hc : s.coming = []) :
    s.beginStep = { s with tick := s.tick + 1 } := by
  obtain ⟨⟩ := s
  simp_all [State.beginStep, State.sampleInputs]

/-! ### The coprocessor's modes (60 R545, R548) -/

/-- All that the coprocessor's own step before an IU step can come to. -/
theorem State.runCp_cases (s : State) :
    s.runCp = s ∨ (s.cfg.cpConcurrent = true ∧ s.cfg.cpPresent = true ∧ s.seeBool .cpOwnStep .ec = true ∧
      s.runCp = s.setCp (Config.cpStep s.tick s.cp)) := by
  unfold State.runCp
  split
  · rename_i h; simp only [Bool.and_eq_true] at h; exact .inr ⟨h.1.1, h.1.2, h.2, rfl⟩
  · exact .inl rfl

/-- A mode other than execute stays, whatever mode the coprocessor asks for. -/
theorem cpModeAfter_of_ne_execute {c : CpState} (h : c.mode ≠ .execute) (m : CpMode) : cpModeAfter c m = c.mode := by
  unfold cpModeAfter
  cases hc : c.mode <;> simp_all

/-- From execute mode no answer leads to exception mode. -/
theorem cpModeAfter_of_execute {c : CpState} (h : c.mode = .execute) (m : CpMode) :
    cpModeAfter c m = .execute ∧ Config.cpException c = false ∨ cpModeAfter c m = .exceptionPending := by
  unfold cpModeAfter
  rw [h]
  dsimp only
  split <;> simp_all

/-- Before an IU step a pending exception stays, and so does exception mode. -/
theorem State.runCp_mode {s : State} (h : s.cp.mode ≠ .execute) : s.runCp.cp.mode = s.cp.mode := by
  obtain e | ⟨-, -, -, e⟩ := s.runCp_cases <;> rw [e]
  exact cpModeAfter_of_ne_execute h _

/-- A pending exception is still pending after the coprocessor's own step, so that it is there until the trap is taken. -/
theorem State.runCp_cpPending {s : State} (h : s.cpPending = true) : s.runCp.cpPending = true := by
  obtain e | ⟨-, -, -, e⟩ := s.runCp_cases
  · rw [e]; exact h
  · rw [e]
    unfold State.cpPending at h ⊢
    simp only [State.setCp_cp, Config.cpStep, cpModeAfter]
    cases hc : s.cp.mode <;> simp_all

/-- A CPop does not leave exception mode for execute mode. -/
theorem Config.cpExecute_mode {c : CpState} (h : c.mode = .exception) (w pc : Word) :
    (Config.cpExecute c w pc).mode ≠ .execute := by
  simp only [Config.cpExecute, cpModeAfterCpop, cpModeAfter, h]
  split <;> simp

/-- STDCQ leaves exception mode exactly where the queue is empty afterwards. -/
theorem Config.cpStoredQueue_mode {c : CpState} (h : c.mode = .exception) :
    (Config.cpStoredQueue c).mode =
      if Config.cpQueueEmpty (Config.cpAfterQueueStore c) then .execute else .exception := by
  simp [Config.cpStoredQueue, h]

/-- The target of a branch, as arithmetic. -/
theorem branchTarget_eq (pc : Word) (d : BitVec 22) : branchTarget pc d = pc + BitVec.ofInt 32 (4 * d.toInt) := by
  unfold branchTarget
  congr 1
  apply BitVec.eq_of_toInt_eq
  rw [BitVec.toInt_signExtend_of_le (x := d ++ 0#2) (v := 32) (by omega)]
  have e : (d ++ 0#2).toInt = 4 * d.toInt := by
    have n : (d ++ 0#2).toNat = d.toNat * 4 := by rw [BitVec.toNat_append]; simp [Nat.shiftLeft_eq]
    have hd := d.isLt
    simp only [BitVec.toInt, n]
    split <;> split <;> omega
  rw [e, BitVec.toInt_ofInt]
  have h1 := BitVec.two_mul_toInt_lt (x := d)
  have h2 := BitVec.le_two_mul_toInt (x := d)
  symm
  apply Int.bmod_eq_of_le <;> omega

/-- A conditional branch that no conditional branch comes directly before, by its condition. -/
theorem branch_transfers {s : State} (hc : s.prev.conditional = false) (taken : Bool) (p : Prop) [Decidable p]
    (h : taken = true ↔ p) (annul : Bool) (disp : BitVec 22) :
    if p then Transfers s (.next (s.branch taken annul disp)) (s.pc + BitVec.ofInt 32 (4 * disp.toInt)) false
    else Transfers s (.next (s.branch taken annul disp)) (s.npc + 4) annul := by
  rw [← branchTarget_eq]
  unfold State.branch
  by_cases hp : p
  · rw [if_pos hp, if_pos (h.2 hp)]
    exact transfers_of_uncoupled hc _ _
  · rw [if_neg hp, if_neg (fun q => hp (h.1 q))]
    exact transfers_of_uncoupled hc _ _

/-- A Ticc with no delayed write in flight, by its condition. -/
theorem trapOn_quiet {s : State} (hq : s.quiet) (test : Icc → Bool) (p : Prop) [Decidable p] (h : test s.psr.icc = true ↔ p)
    (rs1 : Reg) (src : Operand2) :
    if p then s.psr.et = true → Traps s (.next (s.trapOn test rs1 src)) (trapType (.trapInstruction ((s.address rs1 src).extractLsb' 0 7)))
    else Passes s (.next (s.trapOn test rs1 src)) := by
  unfold State.trapOn
  rw [State.seeIcc_quiet hq, State.ea_quiet hq]
  by_cases hp : p
  · rw [if_pos hp, if_pos (h.2 hp)]
    exact fun he => traps_of_quiet hq he _
  · rw [if_neg hp, if_neg (fun q => hp (h.1 q))]
    exact passes_advance s

end Sys2Proof.Machine
end

