-- ==== Sys2Proof/Laws/Decode.lean ====
section
/-! SUPPORT. The fields of the forms of instruction words: what each field of a word written by a form reads as. -/

namespace Sys2Proof

/-! ### Concatenation and extraction as arithmetic -/

theorem toNat_append_add {m n : Nat} (x : BitVec m) (y : BitVec n) : (x ++ y).toNat = x.toNat * 2 ^ n + y.toNat := by
  rw [BitVec.toNat_append, ← Nat.shiftLeft_add_eq_or_of_lt y.isLt, Nat.shiftLeft_eq]

theorem toNat_extract {m : Nat} (x : BitVec m) (s n : Nat) : (x.extractLsb' s n).toNat = x.toNat / 2 ^ s % 2 ^ n := by
  rw [BitVec.extractLsb'_toNat, Nat.shiftRight_eq_div_pow]

theorem toNat_ofBool_of (b : Bool) : (BitVec.ofBool b).toNat = if b then 1 else 0 := by cases b <;> rfl

/-! ### Format 3 -/

@[simp] theorem fieldOp_form3 (op : BitVec 2) (rd : Reg) (op3 : BitVec 6) (rs1 : Reg) (low : BitVec 14) : fieldOp (form3 op rd op3 rs1 low) = op := by
  have := op.isLt; have := rd.isLt; have := op3.isLt; have := rs1.isLt; have := low.isLt
  apply BitVec.eq_of_toNat_eq
  simp only [fieldOp, form3, toNat_extract, toNat_append_add]
  omega

@[simp] theorem fieldRd_form3 (op : BitVec 2) (rd : Reg) (op3 : BitVec 6) (rs1 : Reg) (low : BitVec 14) : fieldRd (form3 op rd op3 rs1 low) = rd := by
  have := op.isLt; have := rd.isLt; have := op3.isLt; have := rs1.isLt; have := low.isLt
  apply BitVec.eq_of_toNat_eq
  simp only [fieldRd, form3, toNat_extract, toNat_append_add]
  omega

@[simp] theorem fieldOp3_form3 (op : BitVec 2) (rd : Reg) (op3 : BitVec 6) (rs1 : Reg) (low : BitVec 14) : fieldOp3 (form3 op rd op3 rs1 low) = op3 := by
  have := op.isLt; have := rd.isLt; have := op3.isLt; have := rs1.isLt; have := low.isLt
  apply BitVec.eq_of_toNat_eq
  simp only [fieldOp3, form3, toNat_extract, toNat_append_add]
  omega

@[simp] theorem fieldRs1_form3 (op : BitVec 2) (rd : Reg) (op3 : BitVec 6) (rs1 : Reg) (low : BitVec 14) : fieldRs1 (form3 op rd op3 rs1 low) = rs1 := by
  have := op.isLt; have := rd.isLt; have := op3.isLt; have := rs1.isLt; have := low.isLt
  apply BitVec.eq_of_toNat_eq
  simp only [fieldRs1, form3, toNat_extract, toNat_append_add]
  omega

@[simp] theorem fieldSimm13_form3 (op : BitVec 2) (rd : Reg) (op3 : BitVec 6) (rs1 : Reg) (low : BitVec 14) : fieldSimm13 (form3 op rd op3 rs1 low) = low.extractLsb' 0 13 := by
  have := op.isLt; have := rd.isLt; have := op3.isLt; have := rs1.isLt; have := low.isLt
  apply BitVec.eq_of_toNat_eq
  simp only [fieldSimm13, form3, toNat_extract, toNat_append_add]
  omega

@[simp] theorem fieldRs2_form3 (op : BitVec 2) (rd : Reg) (op3 : BitVec 6) (rs1 : Reg) (low : BitVec 14) : fieldRs2 (form3 op rd op3 rs1 low) = low.extractLsb' 0 5 := by
  have := op.isLt; have := rd.isLt; have := op3.isLt; have := rs1.isLt; have := low.isLt
  apply BitVec.eq_of_toNat_eq
  simp only [fieldRs2, form3, toNat_extract, toNat_append_add]
  omega

@[simp] theorem fieldAsi_form3 (op : BitVec 2) (rd : Reg) (op3 : BitVec 6) (rs1 : Reg) (low : BitVec 14) : fieldAsi (form3 op rd op3 rs1 low) = low.extractLsb' 5 8 := by
  have := op.isLt; have := rd.isLt; have := op3.isLt; have := rs1.isLt; have := low.isLt
  apply BitVec.eq_of_toNat_eq
  simp only [fieldAsi, form3, toNat_extract, toNat_append_add]
  omega

@[simp] theorem fieldOpf_form3 (op : BitVec 2) (rd : Reg) (op3 : BitVec 6) (rs1 : Reg) (low : BitVec 14) : fieldOpf (form3 op rd op3 rs1 low) = low.extractLsb' 5 9 := by
  have := op.isLt; have := rd.isLt; have := op3.isLt; have := rs1.isLt; have := low.isLt
  apply BitVec.eq_of_toNat_eq
  simp only [fieldOpf, form3, toNat_extract, toNat_append_add]
  omega

@[simp] theorem fieldI_form3 (op : BitVec 2) (rd : Reg) (op3 : BitVec 6) (rs1 : Reg) (low : BitVec 14) : fieldI (form3 op rd op3 rs1 low) = low.getLsbD 13 := by
  have := op.isLt; have := rd.isLt; have := op3.isLt; have := rs1.isLt; have := low.isLt
  simp only [fieldI, BitVec.getLsbD, form3, Nat.testBit_eq_decide_div_mod_eq, toNat_append_add]
  congr 1
  apply propext
  omega

@[simp] theorem fieldCond_form3 (op : BitVec 2) (rd : Reg) (op3 : BitVec 6) (rs1 : Reg) (low : BitVec 14) : fieldCond (form3 op rd op3 rs1 low) = rd.extractLsb' 0 4 := by
  have := op.isLt; have := rd.isLt; have := op3.isLt; have := rs1.isLt; have := low.isLt
  apply BitVec.eq_of_toNat_eq
  simp only [fieldCond, form3, toNat_extract, toNat_append_add]
  omega

/-- The second operand of a word is the one it was written with. -/
@[simp] theorem fieldOperand2_formOperand (op : BitVec 2) (rd : Reg) (op3 : BitVec 6) (rs1 : Reg) (src : Operand2) :
    fieldOperand2 (formOperand op rd op3 rs1 src) = src := by
  cases src with
  | reg rs2 =>
    have h : (0#1 ++ 0#8 ++ rs2).extractLsb' 0 5 = rs2 := by
      apply BitVec.eq_of_toNat_eq
      have := rs2.isLt
      simp only [toNat_extract, toNat_append_add]
      simp
      omega
    have hi : (0#1 ++ 0#8 ++ rs2).getLsbD 13 = false := by
      have := rs2.isLt
      simp only [BitVec.getLsbD, Nat.testBit_eq_decide_div_mod_eq, toNat_append_add]
      simp
      omega
    simp only [fieldOperand2, formOperand, lowOperand, fieldI_form3, fieldRs2_form3, h, hi]
    rfl
  | imm c =>
    have h : (1#1 ++ c).extractLsb' 0 13 = c := by
      apply BitVec.eq_of_toNat_eq
      have := c.isLt
      simp only [toNat_extract, toNat_append_add]
      simp
      omega
    have hi : (1#1 ++ c).getLsbD 13 = true := by
      have := c.isLt
      simp only [BitVec.getLsbD, Nat.testBit_eq_decide_div_mod_eq, toNat_append_add]
      simp
      omega
    simp only [fieldOperand2, formOperand, lowOperand, fieldI_form3, fieldSimm13_form3, h, hi]
    rfl

/-- The shift count of a word is the one it was written with. -/
@[simp] theorem fieldShift_formShift (rd : Reg) (op3 : BitVec 6) (rs1 : Reg) (count : ShiftCount) :
    fieldShift (formShift rd op3 rs1 count) = count := by
  cases count with
  | reg c =>
    have h : (0#1 ++ 0#8 ++ c).extractLsb' 0 5 = c := by
      apply BitVec.eq_of_toNat_eq
      have := c.isLt
      simp only [toNat_extract, toNat_append_add]
      simp
      omega
    have hi : (0#1 ++ 0#8 ++ c).getLsbD 13 = false := by
      have := c.isLt
      simp only [BitVec.getLsbD, Nat.testBit_eq_decide_div_mod_eq, toNat_append_add]
      simp
      omega
    simp only [fieldShift, formShift, lowShift, fieldI_form3, fieldRs2_form3, h, hi]
    rfl
  | imm c =>
    have h : (1#1 ++ 0#8 ++ c).extractLsb' 0 5 = c := by
      apply BitVec.eq_of_toNat_eq
      have := c.isLt
      simp only [toNat_extract, toNat_append_add]
      simp
      omega
    have hi : (1#1 ++ 0#8 ++ c).getLsbD 13 = true := by
      have := c.isLt
      simp only [BitVec.getLsbD, Nat.testBit_eq_decide_div_mod_eq, toNat_append_add]
      simp
      omega
    simp only [fieldShift, formShift, lowShift, fieldI_form3, fieldRs2_form3, h, hi]
    rfl

@[simp] theorem fieldAsi_formAsi (rd : Reg) (op3 : BitVec 6) (rs1 : Reg) (asi : BitVec 8) (rs2 : Reg) : fieldAsi (formAsi rd op3 rs1 asi rs2) = asi := by
  have := asi.isLt; have := rs2.isLt
  apply BitVec.eq_of_toNat_eq
  simp only [formAsi, fieldAsi_form3, toNat_extract, toNat_append_add]
  simp
  omega

@[simp] theorem fieldRs2_formAsi (rd : Reg) (op3 : BitVec 6) (rs1 : Reg) (asi : BitVec 8) (rs2 : Reg) : fieldRs2 (formAsi rd op3 rs1 asi rs2) = rs2 := by
  have := asi.isLt; have := rs2.isLt
  apply BitVec.eq_of_toNat_eq
  simp only [formAsi, fieldRs2_form3, toNat_extract, toNat_append_add]
  simp
  omega

@[simp] theorem fieldOpf_formOpf (rd : Reg) (op3 : BitVec 6) (rs1 : Reg) (opf : BitVec 9) (rs2 : Reg) : fieldOpf (formOpf rd op3 rs1 opf rs2) = opf := by
  have := opf.isLt; have := rs2.isLt
  apply BitVec.eq_of_toNat_eq
  simp only [formOpf, fieldOpf_form3, toNat_extract, toNat_append_add]
  simp
  omega

@[simp] theorem fieldRs2_formOpf (rd : Reg) (op3 : BitVec 6) (rs1 : Reg) (opf : BitVec 9) (rs2 : Reg) : fieldRs2 (formOpf rd op3 rs1 opf rs2) = rs2 := by
  have := opf.isLt; have := rs2.isLt
  apply BitVec.eq_of_toNat_eq
  simp only [formOpf, fieldRs2_form3, toNat_extract, toNat_append_add]
  simp
  omega

@[simp] theorem fieldI_formAsi (rd : Reg) (op3 : BitVec 6) (rs1 : Reg) (asi : BitVec 8) (rs2 : Reg) : fieldI (formAsi rd op3 rs1 asi rs2) = false := by
  have := asi.isLt; have := rs2.isLt
  simp only [formAsi, fieldI_form3, BitVec.getLsbD, Nat.testBit_eq_decide_div_mod_eq, toNat_append_add]
  simp
  omega

@[simp] theorem fieldOp_formOperand (op : BitVec 2) (rd : Reg) (op3 : BitVec 6) (rs1 : Reg) (src : Operand2) : fieldOp (formOperand op rd op3 rs1 src) = op := by
  simp [formOperand]

@[simp] theorem fieldOp_formShift (rd : Reg) (op3 : BitVec 6) (rs1 : Reg) (count : ShiftCount) : fieldOp (formShift rd op3 rs1 count) = 0b10#2 := by
  simp [formShift]

@[simp] theorem fieldOp_formAsi (rd : Reg) (op3 : BitVec 6) (rs1 : Reg) (asi : BitVec 8) (rs2 : Reg) : fieldOp (formAsi rd op3 rs1 asi rs2) = 0b11#2 := by
  simp [formAsi]

@[simp] theorem fieldOp_formOpf (rd : Reg) (op3 : BitVec 6) (rs1 : Reg) (opf : BitVec 9) (rs2 : Reg) : fieldOp (formOpf rd op3 rs1 opf rs2) = 0b10#2 := by
  simp [formOpf]

@[simp] theorem fieldRd_formOperand (op : BitVec 2) (rd : Reg) (op3 : BitVec 6) (rs1 : Reg) (src : Operand2) : fieldRd (formOperand op rd op3 rs1 src) = rd := by
  simp [formOperand]

@[simp] theorem fieldRd_formShift (rd : Reg) (op3 : BitVec 6) (rs1 : Reg) (count : ShiftCount) : fieldRd (formShift rd op3 rs1 count) = rd := by
  simp [formShift]

@[simp] theorem fieldRd_formAsi (rd : Reg) (op3 : BitVec 6) (rs1 : Reg) (asi : BitVec 8) (rs2 : Reg) : fieldRd (formAsi rd op3 rs1 asi rs2) = rd := by
  simp [formAsi]

@[simp] theorem fieldRd_formOpf (rd : Reg) (op3 : BitVec 6) (rs1 : Reg) (opf : BitVec 9) (rs2 : Reg) : fieldRd (formOpf rd op3 rs1 opf rs2) = rd := by
  simp [formOpf]

@[simp] theorem fieldOp3_formOperand (op : BitVec 2) (rd : Reg) (op3 : BitVec 6) (rs1 : Reg) (src : Operand2) : fieldOp3 (formOperand op rd op3 rs1 src) = op3 := by
  simp [formOperand]

@[simp] theorem fieldOp3_formShift (rd : Reg) (op3 : BitVec 6) (rs1 : Reg) (count : ShiftCount) : fieldOp3 (formShift rd op3 rs1 count) = op3 := by
  simp [formShift]

@[simp] theorem fieldOp3_formAsi (rd : Reg) (op3 : BitVec 6) (rs1 : Reg) (asi : BitVec 8) (rs2 : Reg) : fieldOp3 (formAsi rd op3 rs1 asi rs2) = op3 := by
  simp [formAsi]

@[simp] theorem fieldOp3_formOpf (rd : Reg) (op3 : BitVec 6) (rs1 : Reg) (opf : BitVec 9) (rs2 : Reg) : fieldOp3 (formOpf rd op3 rs1 opf rs2) = op3 := by
  simp [formOpf]

@[simp] theorem fieldRs1_formOperand (op : BitVec 2) (rd : Reg) (op3 : BitVec 6) (rs1 : Reg) (src : Operand2) : fieldRs1 (formOperand op rd op3 rs1 src) = rs1 := by
  simp [formOperand]

@[simp] theorem fieldRs1_formShift (rd : Reg) (op3 : BitVec 6) (rs1 : Reg) (count : ShiftCount) : fieldRs1 (formShift rd op3 rs1 count) = rs1 := by
  simp [formShift]

@[simp] theorem fieldRs1_formAsi (rd : Reg) (op3 : BitVec 6) (rs1 : Reg) (asi : BitVec 8) (rs2 : Reg) : fieldRs1 (formAsi rd op3 rs1 asi rs2) = rs1 := by
  simp [formAsi]

@[simp] theorem fieldRs1_formOpf (rd : Reg) (op3 : BitVec 6) (rs1 : Reg) (opf : BitVec 9) (rs2 : Reg) : fieldRs1 (formOpf rd op3 rs1 opf rs2) = rs1 := by
  simp [formOpf]

@[simp] theorem fieldCond_formOperand (op : BitVec 2) (rd : Reg) (op3 : BitVec 6) (rs1 : Reg) (src : Operand2) :
    fieldCond (formOperand op rd op3 rs1 src) = rd.extractLsb' 0 4 := by
  simp [formOperand]

/-! ### Formats 1 and 2 -/

@[simp] theorem fieldOp_formCall (disp : BitVec 30) : fieldOp (formCall disp) = 0b01#2 := by
  have := disp.isLt
  apply BitVec.eq_of_toNat_eq
  simp only [fieldOp, formCall, toNat_extract, toNat_append_add]
  simp
  omega

@[simp] theorem fieldDisp30_formCall (disp : BitVec 30) : fieldDisp30 (formCall disp) = disp := by
  have := disp.isLt
  apply BitVec.eq_of_toNat_eq
  simp only [fieldDisp30, formCall, toNat_extract, toNat_append_add]
  simp
  omega

@[simp] theorem fieldOp_formImm22 (rd : Reg) (op2 : BitVec 3) (imm : BitVec 22) : fieldOp (formImm22 rd op2 imm) = 0b00#2 := by
  have := rd.isLt; have := op2.isLt; have := imm.isLt
  apply BitVec.eq_of_toNat_eq
  simp only [fieldOp, formImm22, toNat_extract, toNat_append_add]
  simp
  omega

@[simp] theorem fieldRd_formImm22 (rd : Reg) (op2 : BitVec 3) (imm : BitVec 22) : fieldRd (formImm22 rd op2 imm) = rd := by
  have := rd.isLt; have := op2.isLt; have := imm.isLt
  apply BitVec.eq_of_toNat_eq
  simp only [fieldRd, formImm22, toNat_extract, toNat_append_add]
  simp
  omega

@[simp] theorem fieldOp2_formImm22 (rd : Reg) (op2 : BitVec 3) (imm : BitVec 22) : fieldOp2 (formImm22 rd op2 imm) = op2 := by
  have := rd.isLt; have := op2.isLt; have := imm.isLt
  apply BitVec.eq_of_toNat_eq
  simp only [fieldOp2, formImm22, toNat_extract, toNat_append_add]
  simp
  omega

@[simp] theorem fieldImm22_formImm22 (rd : Reg) (op2 : BitVec 3) (imm : BitVec 22) : fieldImm22 (formImm22 rd op2 imm) = imm := by
  have := rd.isLt; have := op2.isLt; have := imm.isLt
  apply BitVec.eq_of_toNat_eq
  simp only [fieldImm22, formImm22, toNat_extract, toNat_append_add]
  simp
  omega

@[simp] theorem fieldOp_formBranch (annul : Bool) (cond : BitVec 4) (op2 : BitVec 3) (disp : BitVec 22) : fieldOp (formBranch annul cond op2 disp) = 0b00#2 := by
  have := cond.isLt; have := op2.isLt; have := disp.isLt
  apply BitVec.eq_of_toNat_eq
  simp only [fieldOp, formBranch, toNat_extract, toNat_append_add, toNat_ofBool_of]
  cases annul <;> simp <;> omega

@[simp] theorem fieldCond_formBranch (annul : Bool) (cond : BitVec 4) (op2 : BitVec 3) (disp : BitVec 22) : fieldCond (formBranch annul cond op2 disp) = cond := by
  have := cond.isLt; have := op2.isLt; have := disp.isLt
  apply BitVec.eq_of_toNat_eq
  simp only [fieldCond, formBranch, toNat_extract, toNat_append_add, toNat_ofBool_of]
  cases annul <;> simp <;> omega

@[simp] theorem fieldOp2_formBranch (annul : Bool) (cond : BitVec 4) (op2 : BitVec 3) (disp : BitVec 22) : fieldOp2 (formBranch annul cond op2 disp) = op2 := by
  have := cond.isLt; have := op2.isLt; have := disp.isLt
  apply BitVec.eq_of_toNat_eq
  simp only [fieldOp2, formBranch, toNat_extract, toNat_append_add, toNat_ofBool_of]
  cases annul <;> simp <;> omega

@[simp] theorem fieldImm22_formBranch (annul : Bool) (cond : BitVec 4) (op2 : BitVec 3) (disp : BitVec 22) : fieldImm22 (formBranch annul cond op2 disp) = disp := by
  have := cond.isLt; have := op2.isLt; have := disp.isLt
  apply BitVec.eq_of_toNat_eq
  simp only [fieldImm22, formBranch, toNat_extract, toNat_append_add, toNat_ofBool_of]
  cases annul <;> simp <;> omega

@[simp] theorem fieldA_formBranch (annul : Bool) (cond : BitVec 4) (op2 : BitVec 3) (disp : BitVec 22) : fieldA (formBranch annul cond op2 disp) = annul := by
  have := cond.isLt; have := op2.isLt; have := disp.isLt
  simp only [fieldA, BitVec.getLsbD, formBranch, Nat.testBit_eq_decide_div_mod_eq, toNat_append_add, toNat_ofBool_of]
  cases annul <;> simp <;> omega

end Sys2Proof
end

