-- ==== Sys2Proof/Laws/Invariant.lean ====
section
/-! SUPPORT. What the shared operations do to the invariant of Safety: each keeps it where its arguments are in range. A state that
meets the invariant in execute_mode is called sound here. -/

namespace Sys2Proof.Machine

/-- A state in execute_mode that meets the invariant. -/
def State.sound (s : State) : Prop := s.Inv ∧ s.iu = .execute

/-- The fields the invariant reads decide it. -/
theorem State.inv_congr {s t : State} (h : s.Inv) (hm : t.mem = s.mem) (hp : t.pc = s.pc) (hn : t.npc = s.npc)
    (hc : t.psr.cwp = s.psr.cwp) (hw : t.wim = s.wim) (hfl : t.flight = s.flight) (hfu : t.fpu = s.fpu) (hi : t.iu = s.iu)
    (hb : t.pbError = s.pbError) (hcfg : t.cfg = s.cfg) : t.Inv := by
  unfold State.Inv at *
  rw [hm, hp, hn, hc, hw, hfl, hfu, hi, hb, hcfg]
  exact h

section Parts
variable {s : State} (h : s.Inv)
include h
theorem State.Inv.mem_wf : Memory.wf s.mem = true := h.1
theorem State.Inv.pc_aligned : wordAligned s.pc := h.2.1
theorem State.Inv.npc_aligned : wordAligned s.npc := h.2.2.1
theorem State.Inv.cwp_valid : validWindow s.cfg s.psr.cwp := h.2.2.2.1
theorem State.Inv.wim_valid : validMask s.cfg s.wim := h.2.2.2.2.1
theorem State.Inv.flight_valid : ∀ p ∈ s.flight, p.valid s.cfg := h.2.2.2.2.2.1
theorem State.Inv.fpu_consistent : s.fpu.consistent s.cfg := h.2.2.2.2.2.2.1
theorem State.Inv.fpu_error : s.fpu.mode = .error ↔ s.iu = .error := h.2.2.2.2.2.2.2.1
theorem State.Inv.fpu_reset : s.fpu.mode = .reset ↔ s.iu = .reset := h.2.2.2.2.2.2.2.2.1
theorem State.Inv.pb_error : s.pbError = true ↔ s.iu = .error := h.2.2.2.2.2.2.2.2.2
end Parts

/-- In execute_mode the FPU is in one of its own three modes. -/
theorem State.sound.fpu_mode {s : State} (h : s.sound) :
    s.fpu.mode = .execute ∨ s.fpu.mode = .exceptionPending ∨ s.fpu.mode = .exception := by
  have h1 := h.1.fpu_error
  have h2 := h.1.fpu_reset
  rw [h.2] at h1 h2
  cases hm : s.fpu.mode <;> simp_all

/-! ### Word addresses and windows -/

theorem wordAligned_bits (a : Word) : wordAligned a ↔ a.getLsbD 0 = false ∧ a.getLsbD 1 = false := by
  unfold wordAligned
  have e0 : a.getLsbD 0 = decide (a.toNat % 2 = 1) := by
    simp [BitVec.getLsbD, Nat.testBit_eq_decide_div_mod_eq]
  have e1 : a.getLsbD 1 = decide (a.toNat / 2 % 2 = 1) := by
    simp [BitVec.getLsbD, Nat.testBit_eq_decide_div_mod_eq]
  rw [e0, e1]
  simp only [decide_eq_false_iff_not]
  omega

theorem wordAligned_add {a b : Word} (ha : wordAligned a) (hb : wordAligned b) : wordAligned (a + b) := by
  unfold wordAligned at *
  rw [BitVec.toNat_add]
  omega

theorem wordAligned_add_four {a : Word} (ha : wordAligned a) : wordAligned (a + 4) :=
  wordAligned_add ha (by unfold wordAligned; decide)

theorem wordAligned_append (x : BitVec 30) : wordAligned (x ++ 0#2) := by
  unfold wordAligned
  rw [BitVec.toNat_append]
  simp [Nat.shiftLeft_eq]

theorem wordAligned_branchTarget {pc : Word} (h : wordAligned pc) (disp : BitVec 22) :
    wordAligned (branchTarget pc disp) := by
  refine wordAligned_add h ?_
  rw [wordAligned_bits]
  constructor <;>
    · rw [BitVec.getLsbD_signExtend, BitVec.getLsbD_append]
      simp

theorem wordAligned_callTarget {pc : Word} (h : wordAligned pc) (disp : BitVec 30) : wordAligned (callTarget pc disp) :=
  wordAligned_add h (wordAligned_append disp)

theorem wordAligned_wordAddress (a : Word) : wordAligned (wordAddress a) := by
  rw [wordAligned_bits, wordAddress]
  constructor <;> simp

theorem wordAligned_tbrWord (tba : BitVec 20) (tt : BitVec 8) : wordAligned (tbrWord tba tt) := by
  rw [wordAligned_bits, tbrWord]
  constructor <;>
    · rw [BitVec.getLsbD_append]
      simp

theorem wordAligned_of_aligned {a : Word} (h : aligned a 4 = true) : wordAligned a := by
  simpa [aligned, wordAligned] using h

theorem validWindow_mod (cfg : Params) (n : Nat) : validWindow cfg (BitVec.ofNat 5 (n % nwindows cfg)) := by
  have h1 : nwindows cfg ≤ 32 := by unfold nwindows; omega
  have h2 : 0 < nwindows cfg := by unfold nwindows; omega
  have := Nat.mod_lt n h2
  unfold validWindow
  rw [BitVec.toNat_ofNat, Nat.mod_eq_of_lt] <;> omega

theorem validWindow_below (cfg : Params) (w : BitVec 5) : validWindow cfg (windowBelow cfg w) := validWindow_mod cfg _
theorem validWindow_above (cfg : Params) (w : BitVec 5) : validWindow cfg (windowAbove cfg w) := validWindow_mod cfg _

theorem validMask_and (cfg : Params) (v : Word) : validMask cfg (v &&& wimMask cfg) := by
  unfold validMask
  ext i hi
  simp

/-! ### Updates outside the invariant -/

theorem State.setRegIn_inv {s : State} (h : s.Inv) (w : BitVec 5) (n : Reg) (v : Word) : (s.setRegIn w n v).Inv := by
  apply State.inv_congr h <;> simp

theorem State.setReg_inv {s : State} (h : s.Inv) (u : Use) (n : Reg) (v : Word) : (s.setReg u n v).Inv :=
  State.setRegIn_inv h _ n v

theorem State.setRegIn_sound {s : State} (h : s.sound) (w : BitVec 5) (n : Reg) (v : Word) : (s.setRegIn w n v).sound :=
  ⟨State.setRegIn_inv h.1 w n v, by simpa using h.2⟩

theorem State.setReg_sound {s : State} (h : s.sound) (u : Use) (n : Reg) (v : Word) : (s.setReg u n v).sound :=
  State.setRegIn_sound h _ n v

theorem State.setAnnul_sound {s : State} (h : s.sound) (b : Bool) : (s.setAnnul b).sound :=
  ⟨State.inv_congr h.1 rfl rfl rfl rfl rfl rfl rfl rfl rfl rfl, h.2⟩

theorem State.setTt_sound {s : State} (h : s.sound) (t : BitVec 8) : (s.setTt t).sound :=
  ⟨State.inv_congr h.1 rfl rfl rfl rfl rfl rfl rfl rfl rfl rfl, h.2⟩

theorem State.setCp_sound {s : State} (h : s.sound) (c : CpState) : (s.setCp c).sound :=
  ⟨State.inv_congr h.1 rfl rfl rfl rfl rfl rfl rfl rfl rfl rfl, h.2⟩

theorem State.setCreg_sound {s : State} (h : s.sound) (n : Reg) (v : Word) : (s.setCreg n v).sound :=
  ⟨State.inv_congr h.1 rfl rfl rfl rfl rfl rfl rfl rfl rfl rfl, h.2⟩

theorem State.setCsr_sound {s : State} (h : s.sound) (v : Word) : (s.setCsr v).sound :=
  ⟨State.inv_congr h.1 rfl rfl rfl rfl rfl rfl rfl rfl rfl rfl, h.2⟩

theorem State.answered_sound {s : State} (h : s.sound) (a : EnvAnswer) : (s.answered a).sound :=
  ⟨State.inv_congr h.1 rfl rfl rfl rfl rfl rfl rfl rfl rfl rfl, h.2⟩

theorem State.setFetchOpen_sound {s : State} (h : s.sound) (b : Bool) : (s.setFetchOpen b).sound :=
  ⟨State.inv_congr h.1 rfl rfl rfl rfl rfl rfl rfl rfl rfl rfl, h.2⟩

theorem State.executing_sound {s : State} (h : s.sound) (k : Kind) : (s.executing k).sound :=
  ⟨State.inv_congr h.1 rfl rfl rfl rfl rfl rfl rfl rfl rfl rfl, h.2⟩

theorem State.retire_sound {s : State} (h : s.sound) : s.retire.sound :=
  ⟨State.inv_congr h.1 rfl rfl rfl rfl rfl rfl rfl rfl rfl rfl, h.2⟩

theorem State.flushWord_sound {s : State} (h : s.sound) (a : Word) : (s.flushWord a).sound :=
  ⟨State.inv_congr h.1 rfl rfl rfl rfl rfl rfl rfl rfl rfl rfl, h.2⟩

theorem State.ticked_sound {s : State} (h : s.sound) (n : Nat) : State.sound { s with tick := n } :=
  ⟨State.inv_congr h.1 rfl rfl rfl rfl rfl rfl rfl rfl rfl rfl, h.2⟩

/-! ### Program counters -/

theorem State.setPcs_sound {s : State} (h : s.sound) {pc npc : Word} (hp : wordAligned pc) (hn : wordAligned npc) :
    (s.setPcs pc npc).sound := by
  obtain ⟨⟨h1, -, -, h4⟩, hi⟩ := h
  exact ⟨⟨h1, hp, hn, h4⟩, hi⟩

/-- Completing keeps the invariant. -/
theorem State.advance_sound {s : State} (h : s.sound) : s.advance.sound :=
  State.retire_sound (State.setPcs_sound h h.1.npc_aligned (wordAligned_add_four h.1.npc_aligned))

/-- A transfer to a word address keeps the invariant. -/
theorem State.transfer_sound {s : State} (h : s.sound) {target : Word} (ht : wordAligned target) (annul : Bool) :
    (s.transfer target annul).sound := by
  unfold State.transfer
  have h1 : (if annul = true then s.setAnnul true else s).sound := by
    split
    · exact State.setAnnul_sound h true
    · exact h
  apply State.retire_sound
  split
  · exact State.setPcs_sound h1 (wordAligned_wordAddress _) (wordAligned_wordAddress _)
  · exact State.setPcs_sound h1 h.1.npc_aligned ht

/-- A read keeps the invariant. -/
theorem State.memoryRead_sound {s : State} (h : s.sound) (acc : Access) (asi : Byte) (addr : Word) (mask : BitVec 4) :
    (s.memoryRead acc asi addr mask).1.sound := by
  unfold State.memoryRead
  split
  · exact State.answered_sound h _
  · exact h

theorem State.fetch_sound {s : State} (h : s.sound) : s.fetch.1.sound := by
  unfold State.fetch
  split
  · exact State.memoryRead_sound h _ _ _ _
  · exact h

theorem State.skip_sound {s : State} (h : s.sound) : s.skip.sound := by
  obtain ⟨⟨h1, h2, h3, h4⟩, hi⟩ := State.fetch_sound h
  refine ⟨⟨h1, ?_, ?_, h4⟩, hi⟩
  · show wordAligned (if _ then _ else _)
    split
    · exact wordAligned_wordAddress _
    · exact h.1.npc_aligned
  · show wordAligned (if _ then _ else _)
    split
    · exact wordAligned_wordAddress _
    · exact wordAligned_add_four h.1.npc_aligned

/-! ### State registers -/

/-- Fewer old values in flight, and a window in CWP. -/
theorem State.psr_sound {s t : State} (h : s.sound) (hm : t.mem = s.mem) (hp : t.pc = s.pc) (hn : t.npc = s.npc)
    (hc : validWindow s.cfg t.psr.cwp) (hw : t.wim = s.wim) (hfl : ∀ p ∈ t.flight, p ∈ s.flight) (hfu : t.fpu = s.fpu)
    (hi : t.iu = s.iu) (hb : t.pbError = s.pbError) (hcfg : t.cfg = s.cfg) : t.sound := by
  obtain ⟨⟨h1, h2, h3, -, h5, h6, h7⟩, hx⟩ := h
  refine ⟨?_, by rw [hi, hx]⟩
  unfold State.Inv
  rw [hm, hp, hn, hw, hfu, hi, hb, hcfg]
  exact ⟨h1, h2, h3, hc, h5, fun p hp => h6 p (hfl p hp), h7⟩

theorem State.settled_subset (s : State) (f : Delayed) : ∀ p ∈ s.settled f, p ∈ s.flight := by
  intro p hp
  exact (List.mem_filter.1 hp).1

theorem State.putIcc_sound {s : State} (h : s.sound) (i : Icc) : (s.putIcc i).sound :=
  State.psr_sound h rfl rfl rfl h.1.cwp_valid rfl (s.settled_subset _) rfl rfl rfl rfl
theorem State.putCwp_sound {s : State} (h : s.sound) {w : BitVec 5} (hw : validWindow s.cfg w) : (s.putCwp w).sound :=
  State.psr_sound h rfl rfl rfl hw rfl (s.settled_subset _) rfl rfl rfl rfl
theorem State.putS_sound {s : State} (h : s.sound) (b : Bool) : (s.putS b).sound :=
  State.psr_sound h rfl rfl rfl h.1.cwp_valid rfl (s.settled_subset _) rfl rfl rfl rfl
theorem State.putEt_sound {s : State} (h : s.sound) (b : Bool) : (s.putEt b).sound :=
  State.psr_sound h rfl rfl rfl h.1.cwp_valid rfl (s.settled_subset _) rfl rfl rfl rfl
theorem State.putY_sound {s : State} (h : s.sound) (v : Word) : (s.putY v).sound :=
  State.psr_sound h rfl rfl rfl h.1.cwp_valid rfl (s.settled_subset _) rfl rfl rfl rfl

/-- A delayed write of a value in the field's range. -/
theorem State.putDelayed_sound {s : State} (h : s.sound) {f : Delayed} {v : Word}
    (hc : f = .cwp → validWindow s.cfg (v.setWidth 5)) (hw : f = .wim → validMask s.cfg v) : (s.putDelayed f v).sound := by
  unfold State.putDelayed
  split
  · exact h
  · obtain ⟨⟨h1, h2, h3, h4, h5, h6, h7⟩, hx⟩ := h
    have hold : (⟨f, s.live f, 3⟩ : InFlight).valid s.cfg := by
      refine ⟨Nat.le_refl _, ?_, ?_⟩
      · intro e
        have e' : f = .cwp := e
        subst e'
        simpa [State.live] using h4
      · intro e
        have e' : f = .wim := e
        subst e'
        simpa [State.live] using h5
    have hfl : ∀ p ∈ (⟨f, s.live f, 3⟩ : InFlight) :: s.flight, p.valid s.cfg := by
      intro p hp
      rcases List.mem_cons.1 hp with rfl | hp
      · exact hold
      · exact h6 p hp
    cases f
    case cwp => exact ⟨⟨h1, h2, h3, hc rfl, h5, hfl, h7⟩, hx⟩
    case wim => exact ⟨⟨h1, h2, h3, h4, hw rfl, hfl, h7⟩, hx⟩
    all_goals exact ⟨⟨h1, h2, h3, h4, h5, hfl, h7⟩, hx⟩

/-- Each use of CWP sees a window. -/
theorem State.seeCwp_valid {s : State} (h : s.Inv) (u : Use) : validWindow s.cfg (s.seeCwp u) := by
  unfold State.seeCwp
  rcases State.see_mem s u .cwp with e | e
  · rw [e]; simpa [State.live] using h.cwp_valid
  · simp only [State.olds, List.mem_map, List.mem_filter] at e
    obtain ⟨p, ⟨hp, hf⟩, e⟩ := e
    rw [← e]
    exact (h.flight_valid p hp).2.1 (by simpa using hf)

/-! ### Memory -/

/-- A store keeps the invariant. -/
theorem State.memoryWrite_sound {s t : State} {asi : Byte} {addr : Word} {mask : BitVec 4} {data : Word} (h : s.sound)
    (hw : s.memoryWrite asi addr mask data = some t) : t.sound := by
  obtain ⟨⟨h1, h2⟩, hi⟩ := h
  rcases State.memoryWrite_some hw with ⟨-, e⟩ | ⟨k, -, e⟩ <;> rw [e]
  · exact ⟨⟨h1, h2⟩, hi⟩
  · exact ⟨⟨Memory.setMasked_wf _ _ _ _ h1, h2⟩, hi⟩

/-! ### Traps and reset -/

/-- A trap's entry keeps the invariant. -/
theorem State.trapEntry_sound {s : State} (h : s.sound) (t : Trap) : (s.trapEntry t).sound := by
  obtain ⟨⟨h1, h2, h3, h4, h5, h6, h7⟩, hi⟩ := h
  refine ⟨?_, by simpa using hi⟩
  unfold State.Inv
  simp only [State.trapEntry_mem, State.trapEntry_pc, State.trapEntry_npc, State.trapEntry_cfg, State.trapEntry_psr,
    State.trapEntry_wim, State.trapEntry_flight, State.trapEntry_fpu, State.trapEntry_iu, State.trapEntry_pbError]
  refine ⟨h1, wordAligned_tbrWord _ _, wordAligned_add_four (wordAligned_tbrWord _ _), validWindow_below _ _, h5, ?_, h7⟩
  simp

/-- Entering error_mode keeps the invariant. -/
theorem State.enterErrorMode_inv {s : State} (h : s.Inv) : s.enterErrorMode.Inv := by
  obtain ⟨h1, h2, h3, h4, h5, h6, ⟨g1, g2, g3, g4, g5⟩, -⟩ := h
  refine ⟨h1, h2, h3, h4, h5, h6, ⟨g1, ?_, ?_, g4, ?_⟩, ?_⟩ <;> simp [State.enterErrorMode]

/-- A trap, taken or not, keeps the invariant. -/
theorem State.takeTrap_inv {s : State} (h : s.sound) (t : Trap) : (s.takeTrap t).Inv := by
  rcases State.takeTrap_cases s t with ⟨-, e⟩ | ⟨-, -, e⟩ | ⟨-, -, e⟩ <;> rw [e]
  · exact h.1
  · exact (State.trapEntry_sound h t).1
  · exact State.enterErrorMode_inv h.1

theorem State.enterReset_inv {s : State} (h : s.Inv) : s.enterReset.Inv := by
  obtain ⟨h1, h2, h3, h4, h5, h6, ⟨g1, g2, g3, g4, g5⟩, -⟩ := h
  refine ⟨h1, h2, h3, h4, h5, h6, ⟨g1, ?_, ?_, g4, ?_⟩, ?_⟩ <;> simp [State.enterReset]

theorem State.resetTrap_inv {s : State} (h : s.Inv) : s.resetTrap.Inv := by
  obtain ⟨h1, h2, h3, h4, h5, h6, ⟨g1, g2, g3, g4, g5⟩, -⟩ := h
  unfold State.Inv
  simp only [State.resetTrap_mem, State.resetTrap_pc, State.resetTrap_npc, State.resetTrap_cfg, State.resetTrap_wim,
    State.resetTrap_flight, State.resetTrap_iu, State.resetTrap_pbError]
  refine ⟨h1, by unfold wordAligned; decide, by unfold wordAligned; decide, ?_, h5, by simp, ⟨?_, ?_, ?_, ?_, ?_⟩, ?_, ?_, ?_⟩
  · simp only [State.resetTrap]
    split
    · exact validWindow_below _ _
    · exact h4
  all_goals simp [State.resetTrap]
  exact g4

/-! ### The floating-point unit -/

/-- An update of the FPU that leaves it consistent and in one of its own modes. -/
theorem State.fpu_sound {s t : State} (h : s.sound) (ht : t = { s with fpu := t.fpu, tick := t.tick })
    (hc : t.fpu.consistent s.cfg) (he : t.fpu.mode ≠ .error) (hr : t.fpu.mode ≠ .reset) : t.sound := by
  obtain ⟨⟨h1, h2, h3, h4, h5, h6, -, -, -, hb⟩, hi⟩ := h
  rw [ht]
  refine ⟨⟨h1, h2, h3, h4, h5, h6, hc, ?_, ?_, hb⟩, hi⟩
  · simp [he, hi]
  · simp [hr, hi]

theorem State.setFreg_sound {s : State} (h : s.sound) (n : Reg) (v : Word) : (s.setFreg n v).sound := by
  refine State.fpu_sound h rfl h.1.fpu_consistent ?_ ?_ <;>
    · simp only [State.setFreg_fpu]
      rcases h.fpu_mode with e | e | e <;> simp [e]

theorem State.setDouble_sound {s : State} (h : s.sound) (x : Reg) (v : BitVec 64) : (s.setDouble x v).sound :=
  State.setFreg_sound (State.setFreg_sound h _ _) _ _

theorem State.setExtended_sound {s : State} (h : s.sound) (x : Reg) (v : BitVec 96) : (s.setExtended x v).sound :=
  State.setFreg_sound (State.setFreg_sound (State.setFreg_sound h _ _) _ _) _ _

/-- A new FSR whose ftt exists and whose qne is as before. -/
theorem State.setFsr_sound {s : State} (h : s.sound) {r : Fsr} (hf : r.ftt.toNat ≤ 4) (hq : r.qne = s.fpu.fsr.qne) :
    (s.setFsr r).sound := by
  obtain ⟨g1, g2, g3, g4, g5⟩ := h.1.fpu_consistent
  refine State.fpu_sound h rfl ⟨g1, g2, fun e => ?_, hf, g5⟩ ?_ ?_
  · show r.qne = true
    rw [hq]; exact g3 e
  all_goals
    simp only [State.setFsr_fpu]
    rcases h.fpu_mode with e | e | e <;> simp [e]

/-- The FPU stops at a front entry. -/
theorem State.fpStop_sound {s : State} (h : s.sound) (hq : s.fpu.queue ≠ []) {ftt : BitVec 3} (hf : ftt.toNat ≤ 4)
    (cexc : BitVec 5) : (s.fpStop ftt cexc).sound := by
  obtain ⟨g1, g2, g3, g4, g5⟩ := h.1.fpu_consistent
  refine State.fpu_sound h rfl ⟨g1, fun _ => hq, ?_, hf, ?_⟩ ?_ ?_ <;> simp [State.fpStop]

/-- An operation of the FPU changes the FPU and the counter only. -/
def State.onlyFpuChanged (s t : State) : Prop := t = { s with fpu := t.fpu, tick := t.tick }

theorem State.onlyFpuChanged.trans {s t u : State} (h1 : s.onlyFpuChanged t) (h2 : t.onlyFpuChanged u) :
    s.onlyFpuChanged u := by
  unfold State.onlyFpuChanged at *
  rw [h2, h1]

theorem State.setFreg_only (s : State) (n : Reg) (v : Word) : s.onlyFpuChanged (s.setFreg n v) := rfl

/-- Writing a result changes f registers or fcc. -/
theorem State.writeResult_cases (s : State) (rd : Reg) (r : FpResult) :
    s.onlyFpuChanged (s.writeResult rd r) ∧ (s.writeResult rd r).tick = s.tick ∧
      (s.writeResult rd r).fpu.mode = s.fpu.mode ∧ (s.writeResult rd r).fpu.queue = s.fpu.queue ∧
      (s.writeResult rd r).fpu.fsr = { s.fpu.fsr with fcc := (s.writeResult rd r).fpu.fsr.fcc } := by
  cases r <;> exact ⟨rfl, rfl, rfl, rfl, rfl⟩

/-- What the end of an operation may do: stop at the front entry with ftt 1, or remove it, ftt kept or 0. -/
def State.endsEntry (s t : State) (rest : List FqEntry) : Prop :=
  s.onlyFpuChanged t ∧ t.fpu.fsr.qne = s.fpu.fsr.qne ∧
    ((t.fpu.mode = .exceptionPending ∧ t.fpu.queue = s.fpu.queue ∧ t.fpu.fsr.ftt = 1) ∨
      (t.fpu.mode = s.fpu.mode ∧ t.fpu.queue = rest ∧ (t.fpu.fsr.ftt = s.fpu.fsr.ftt ∨ t.fpu.fsr.ftt = 0)))

theorem State.takeOver_endsEntry (s : State) (r : Fsr) (hq : r.qne = s.fpu.fsr.qne) (hf : r.ftt = 0) (rd : Reg)
    (rest : List FqEntry) (x : FpResult) : s.endsEntry (((s.setFsr r).writeResult rd x).setQueue rest) rest := by
  obtain ⟨c1, c2, c3, c4, c5⟩ := State.writeResult_cases (s.setFsr r) rd x
  generalize (s.setFsr r).writeResult rd x = t at *
  have h0 : s.onlyFpuChanged (s.setFsr r) := rfl
  have h1 : t.onlyFpuChanged (t.setQueue rest) := rfl
  refine ⟨(h0.trans c1).trans h1, ?_, .inr ⟨c3, rfl, .inr ?_⟩⟩
  · show t.fpu.fsr.qne = _
    rw [c5]; exact hq
  · show t.fpu.fsr.ftt = _
    rw [c5]; exact hf

theorem State.fpStop_endsEntry (s : State) (cexc : BitVec 5) (rest : List FqEntry) :
    s.endsEntry (s.fpStop 1 cexc) rest := ⟨rfl, rfl, .inl ⟨rfl, rfl, rfl⟩⟩

/-- The end of an operation. -/
theorem State.finishEntry_cases (s : State) (rd : Reg) (rest : List FqEntry) (ans : FpAnswer) :
    s.endsEntry (s.finishEntry rd rest ans) rest := by
  have key : ∀ (c : Prop) [Decidable c] (r : Fsr) (x : FpResult) (cexc : BitVec 5), r.qne = s.fpu.fsr.qne → r.ftt = 0 →
      s.endsEntry (if c then ((s.setFsr r).writeResult rd x).setQueue rest else s.fpStop 1 cexc) rest := by
    intro c _ r x cexc hq hf
    split
    · exact State.takeOver_endsEntry s r hq hf rd rest x
    · exact State.fpStop_endsEntry s cexc rest
  unfold State.finishEntry
  cases ans.result with
  | move w =>
    refine ⟨rfl, rfl, .inr ⟨rfl, rfl, ?_⟩⟩
    show (if _ then (0 : BitVec 3) else _) = _ ∨ (if _ then (0 : BitVec 3) else _) = 0
    split
    · exact .inr rfl
    · exact .inl rfl
  | single w => exact key _ _ _ _ rfl rfl
  | double d => exact key _ _ _ _ rfl rfl
  | extended x => exact key _ _ _ _ rfl rfl
  | fcc c => exact key _ _ _ _ rfl rfl

/-- The completion of the front entry: the FPU stops at it, or it is gone. -/
theorem State.completeFront_cases {s : State} {e : FqEntry} {rest : List FqEntry} (hq : s.fpu.queue = e :: rest) :
    s.onlyFpuChanged s.completeFront ∧ s.completeFront.fpu.fsr.qne = s.fpu.fsr.qne ∧
      ((s.completeFront.fpu.mode = .exceptionPending ∧ s.completeFront.fpu.queue = s.fpu.queue ∧
          s.completeFront.fpu.fsr.ftt.toNat ≤ 4) ∨
        (s.completeFront.fpu.mode = s.fpu.mode ∧ s.completeFront.fpu.queue = rest ∧
          (s.completeFront.fpu.fsr.ftt = s.fpu.fsr.ftt ∨ s.completeFront.fpu.fsr.ftt = 0))) := by
  unfold State.completeFront
  rw [hq]
  dsimp only
  split
  · exact ⟨rfl, rfl, .inl ⟨rfl, hq, by simp [State.fpStop]⟩⟩
  · split
    · exact ⟨rfl, rfl, .inl ⟨rfl, hq, by simp [State.fpStop]⟩⟩
    · split
      · exact ⟨rfl, rfl, .inl ⟨rfl, hq, by simp [State.fpStop]⟩⟩
      · rename_i ans _ _ _
        obtain ⟨h1, h3, h4⟩ := State.finishEntry_cases { s with tick := s.tick + 1 } e.rd rest ans
        have h0 : s.onlyFpuChanged { s with tick := s.tick + 1 } := rfl
        refine ⟨h0.trans h1, h3, ?_⟩
        rcases h4 with ⟨a, b, c⟩ | ⟨a, b, c⟩
        · exact .inl ⟨a, b.trans hq, by rw [c]; decide⟩
        · exact .inr ⟨a, b, c⟩

/-- Steps of the FPU: entries leave the front of the queue, and the FPU may stop at one. -/
theorem State.fpuStepsWhile_cases (wait : List FqEntry → Bool) (n : Nat) (s : State) (hf : s.fpu.fsr.ftt.toNat ≤ 4) :
    s.onlyFpuChanged (State.fpuStepsWhile wait n s) ∧ (State.fpuStepsWhile wait n s).fpu.fsr.qne = s.fpu.fsr.qne ∧
      (State.fpuStepsWhile wait n s).fpu.fsr.ftt.toNat ≤ 4 ∧
      (State.fpuStepsWhile wait n s).fpu.queue <:+ s.fpu.queue ∧
      ((State.fpuStepsWhile wait n s).fpu.mode = s.fpu.mode ∨
        (s.fpu.mode = .execute ∧ (State.fpuStepsWhile wait n s).fpu.mode = .exceptionPending ∧
          (State.fpuStepsWhile wait n s).fpu.queue ≠ [] ∧ wait (State.fpuStepsWhile wait n s).fpu.queue = true)) := by
  induction n generalizing s with
  | zero => exact ⟨rfl, rfl, hf, List.suffix_refl _, .inl rfl⟩
  | succ n ih =>
    unfold State.fpuStepsWhile
    split
    · rename_i hc
      simp only [Bool.and_eq_true, beq_iff_eq] at hc
      obtain ⟨⟨hm, hne⟩, hwait⟩ := hc
      cases hq : s.fpu.queue with
      | nil => simp [hq] at hne
      | cons e rest =>
        obtain ⟨h1, h2, h3⟩ := State.completeFront_cases hq
        have hf' : s.completeFront.fpu.fsr.ftt.toNat ≤ 4 := by
          rcases h3 with ⟨-, -, c⟩ | ⟨-, -, c | c⟩
          · exact c
          · rw [c]; exact hf
          · rw [c]; decide
        obtain ⟨i1, i2, i3, i4, i5⟩ := ih s.completeFront hf'
        refine ⟨h1.trans i1, i2.trans h2, i3, ?_, ?_⟩
        · rcases h3 with ⟨-, b, -⟩ | ⟨-, b, -⟩
          · rw [b, hq] at i4; exact i4
          · rw [b] at i4; exact i4.trans (List.suffix_cons _ _)
        · rcases h3 with ⟨a, b, -⟩ | ⟨a, -, -⟩
          · right
            rcases i5 with i5 | ⟨i5, -⟩
            · refine ⟨hm, i5.trans a, ?_⟩
              have hstop : State.fpuStepsWhile wait n s.completeFront = s.completeFront := by
                cases n with
                | zero => rfl
                | succ n => simp [State.fpuStepsWhile, a]
              rw [hstop, b]
              exact ⟨by simp [hq], hwait⟩
            · rw [a] at i5; cases i5
          · rw [a, hm] at i5
            rcases i5 with i5 | ⟨-, i5⟩
            · exact .inl (i5.trans hm.symm)
            · exact .inr ⟨hm, i5⟩
    · exact ⟨rfl, rfl, hf, List.suffix_refl _, .inl rfl⟩

/-- Steps of the FPU keep the invariant. -/
theorem State.fpuStepsWhile_sound {s : State} (h : s.sound) (wait : List FqEntry → Bool) (n : Nat) :
    (State.fpuStepsWhile wait n s).sound := by
  obtain ⟨g1, g2, g3, g4, g5⟩ := h.1.fpu_consistent
  obtain ⟨c1, c2, c3, c4, c5⟩ := State.fpuStepsWhile_cases wait n s g4
  refine State.fpu_sound h c1 ⟨?_, ?_, ?_, c3, ?_⟩ ?_ ?_
  · exact Nat.le_trans c4.length_le g1
  · intro hm
    rcases c5 with c5 | ⟨-, -, c6, -⟩
    · rw [c5] at hm
      rcases h.fpu_mode with e | e | e
      · rw [e] at hm; simp at hm
      · have hstop : State.fpuStepsWhile wait n s = s := by
          cases n with
          | zero => rfl
          | succ n => simp [State.fpuStepsWhile, e]
        rw [hstop]; exact g2 hm
      · have hstop : State.fpuStepsWhile wait n s = s := by
          cases n with
          | zero => rfl
          | succ n => simp [State.fpuStepsWhile, e]
        rw [hstop]; exact g2 hm
    · exact c6
  · intro hm
    rw [c2]
    rcases c5 with c5 | ⟨-, c5, -, -⟩
    · exact g3 (c5 ▸ hm)
    · rw [c5] at hm; cases hm
  · intro hs hm
    rcases c5 with c5 | ⟨-, c5, -, -⟩
    · have := g5 hs (c5 ▸ hm)
      rw [this] at c4
      exact List.suffix_nil.1 c4
    · rw [c5] at hm; cases hm
  · rcases c5 with c5 | ⟨-, c5, -, -⟩
    · rw [c5]; rcases h.fpu_mode with e | e | e <;> simp [e]
    · simp [c5]
  · rcases c5 with c5 | ⟨-, c5, -, -⟩
    · rw [c5]; rcases h.fpu_mode with e | e | e <;> simp [e]
    · simp [c5]

theorem State.holdWhile_sound {s : State} (h : s.sound) (wait : List FqEntry → Bool) : (s.holdWhile wait).sound :=
  State.fpuStepsWhile_sound h wait _

/-- The deferred fp_exception keeps the invariant. -/
theorem State.fpExceptionTrap_inv {s : State} (h : s.sound) (hq : s.fpu.queue ≠ []) : s.fpExceptionTrap.Inv := by
  obtain ⟨g1, g2, g3, g4, g5⟩ := h.1.fpu_consistent
  have hs : ((s.setFsr { s.fpu.fsr with qne := !s.fpu.queue.isEmpty }).setFpuMode .exception).sound := by
    refine State.fpu_sound h rfl ⟨g1, fun _ => hq, ?_, g4, ?_⟩ ?_ ?_ <;> simp [State.setFsr, State.setFpuMode, hq]
  exact State.takeTrap_inv hs _

/-- sequence_error keeps the invariant. -/
theorem State.sequenceError_sound {s : State} (h : s.sound) (hm : s.fpu.mode = .exception) : s.sequenceError.sound := by
  obtain ⟨g1, g2, g3, g4, g5⟩ := h.1.fpu_consistent
  refine State.fpu_sound h rfl ⟨g1, fun _ => g2 (.inr hm), ?_, ?_, ?_⟩ ?_ ?_ <;>
    simp [State.sequenceError, State.setFsr, State.setFpuMode]

/-- The guard of the floating-point instructions keeps the invariant where the instruction does. -/
theorem State.fpGuard_inv {s : State} (h : s.sound) (body : State → State) (hb : (body s).Inv) : (s.fpGuard body).Inv := by
  unfold State.fpGuard
  split
  · exact State.takeTrap_inv h _
  · split
    · exact State.fpExceptionTrap_inv h (h.1.fpu_consistent.2.1 (.inl ‹_›))
    · exact hb

/-- So does the wait for FPops. -/
theorem State.fpHold_inv {s : State} (h : s.sound) (wait : List FqEntry → Bool) (body : State → State)
    (hb : ∀ t : State, t.sound → (body t).Inv) : (s.fpHold wait body).Inv := by
  have hs := State.holdWhile_sound h wait
  rcases State.fpHold_cases s wait body with ⟨hm, e⟩ | ⟨-, e⟩ <;> rw [e]
  · exact State.fpExceptionTrap_inv hs (hs.1.fpu_consistent.2.1 (.inl hm))
  · exact hb _ hs

end Sys2Proof.Machine
end

