-- ==== Sys2Proof/Laws/Fpops.lean ====
section
/-! SUPPORT. FPops: what they read, what executing one comes to, and the f registers after a write. -/

namespace Sys2Proof.Machine

/-- What an FPop computes does not depend on the queue. -/
theorem fpAnswer_setQueue (fn : FpFn) (s : State) (q : List FqEntry) (rs1 rs2 : Reg) :
    fpAnswer fn (s.setQueue q) rs1 rs2 = fpAnswer fn s rs1 rs2 := by
  cases fn <;> rfl

/-- Executing an FPop is its dispatch. -/
theorem exec_of_fpopOf {i : Instr} {fn : FpFn} {rd rs1 rs2 : Reg} (hf : FpopOf i fn rd rs1 rs2) (s : State) :
    exec i s = .next (s.fpop fn rd rs1 rs2 (encode i)) := by
  cases hf <;> rfl

/-- Each of the FPops computes something. -/
theorem fpAnswer_of_fpopOf {i : Instr} {fn : FpFn} {rd rs1 rs2 : Reg} (hf : FpopOf i fn rd rs1 rs2) (s : State) :
    ∃ ans, fpAnswer fn s rs1 rs2 = some ans := by
  cases hf <;> exact ⟨_, rfl⟩

/-- An FPop with the FPU ready and sequential is the completion of its entry. -/
theorem State.fpop_ready {s : State} (h : s.fpReady) (hc : s.cfg.fpuConcurrent = false) (fn : FpFn) (rd rs1 rs2 : Reg)
    (w : Word) : s.fpop fn rd rs1 rs2 w = ((s.setQueue [⟨s.pc, w, fn, rd, rs1, rs2⟩]).completeFront).advance := by
  obtain ⟨hq, hef, hp, hm, hn⟩ := h
  have hd : s.fpDisabled = false := by simp [State.fpDisabled, State.seeEf_quiet hq, hef, hp]
  unfold State.fpop
  simp [hd, hm, hn, queueDepth, State.accept, hc, State.holdWhile, State.fpuStepsWhile]

/-- An operation of the FPU, and the advance, keep everything outside the FPU. -/
theorem State.onlyFpuChanged.advance {s t : State} (h : s.onlyFpuChanged t) :
    Advanced s t.advance ∧ RegsKept s t.advance ∧ MemKept s t.advance ∧ OnlyFpu s t.advance := by
  unfold State.onlyFpuChanged at h
  refine ⟨⟨?_, ?_⟩, ?_, ?_, ?_⟩
  · rw [h]; rfl
  · rw [h]; rfl
  · intro w n
    apply State.regIn_congr <;> rw [h] <;> rfl
  · intro k
    rw [h]; rfl
  · unfold OnlyFpu
    rw [h]; rfl

/-- An f register reads as written, and every other one as before. -/
theorem State.freg_setFreg (s : State) (n m : Reg) (v : Word) :
    (s.setFreg n v).freg m = if m = n then v else s.freg m := by
  have h := vector_get_set s.fpu.f n.toFin m.toFin v
  have e : n.toFin = m.toFin ↔ m = n :=
    ⟨fun q => BitVec.eq_of_toFin_eq q.symm, fun q => by rw [q]⟩
  simp only [e] at h
  exact h

end Sys2Proof.Machine
end

