-- ==== Sys2Proof/Laws/PerInstr.lean ====
section
/-! SUPPORT. Lemmas for each instruction: the bits of op in the word that encode writes for it (spec 30 R150). -/

/-- op of an instruction's words (R150). -/
def Sys2Proof.Laws.opOf (i : Sys2Proof.Instr) : BitVec 2 :=
  match i with
  | .ldsb _ _ _ => 0b11#2
  | .ldsh _ _ _ => 0b11#2
  | .ldub _ _ _ => 0b11#2
  | .lduh _ _ _ => 0b11#2
  | .ld _ _ _ => 0b11#2
  | .ldd _ _ _ => 0b11#2
  | .ldsba _ _ _ _ => 0b11#2
  | .ldsha _ _ _ _ => 0b11#2
  | .lduba _ _ _ _ => 0b11#2
  | .lduha _ _ _ _ => 0b11#2
  | .lda _ _ _ _ => 0b11#2
  | .ldda _ _ _ _ => 0b11#2
  | .ldf _ _ _ => 0b11#2
  | .lddf _ _ _ => 0b11#2
  | .ldfsr _ _ => 0b11#2
  | .ldc _ _ _ => 0b11#2
  | .lddc _ _ _ => 0b11#2
  | .ldcsr _ _ => 0b11#2
  | .stb _ _ _ => 0b11#2
  | .sth _ _ _ => 0b11#2
  | .st _ _ _ => 0b11#2
  | .std _ _ _ => 0b11#2
  | .stba _ _ _ _ => 0b11#2
  | .stha _ _ _ _ => 0b11#2
  | .sta _ _ _ _ => 0b11#2
  | .stda _ _ _ _ => 0b11#2
  | .stf _ _ _ => 0b11#2
  | .stdf _ _ _ => 0b11#2
  | .stfsr _ _ => 0b11#2
  | .stdfq _ _ => 0b11#2
  | .stc _ _ _ => 0b11#2
  | .stdc _ _ _ => 0b11#2
  | .stcsr _ _ => 0b11#2
  | .stdcq _ _ => 0b11#2
  | .ldstub _ _ _ => 0b11#2
  | .ldstuba _ _ _ _ => 0b11#2
  | .swap _ _ _ => 0b11#2
  | .swapa _ _ _ _ => 0b11#2
  | .add _ _ _ => 0b10#2
  | .addcc _ _ _ => 0b10#2
  | .addx _ _ _ => 0b10#2
  | .addxcc _ _ _ => 0b10#2
  | .taddcc _ _ _ => 0b10#2
  | .taddcctv _ _ _ => 0b10#2
  | .tsubcc _ _ _ => 0b10#2
  | .tsubcctv _ _ _ => 0b10#2
  | .sub _ _ _ => 0b10#2
  | .subcc _ _ _ => 0b10#2
  | .subx _ _ _ => 0b10#2
  | .subxcc _ _ _ => 0b10#2
  | .mulscc _ _ _ => 0b10#2
  | .and _ _ _ => 0b10#2
  | .andcc _ _ _ => 0b10#2
  | .andn _ _ _ => 0b10#2
  | .andncc _ _ _ => 0b10#2
  | .or _ _ _ => 0b10#2
  | .orcc _ _ _ => 0b10#2
  | .orn _ _ _ => 0b10#2
  | .orncc _ _ _ => 0b10#2
  | .xor _ _ _ => 0b10#2
  | .xorcc _ _ _ => 0b10#2
  | .xnor _ _ _ => 0b10#2
  | .xnorcc _ _ _ => 0b10#2
  | .sll _ _ _ => 0b10#2
  | .srl _ _ _ => 0b10#2
  | .sra _ _ _ => 0b10#2
  | .sethi _ _ => 0b00#2
  | .save _ _ _ => 0b10#2
  | .restore _ _ _ => 0b10#2
  | .bn _ _ => 0b00#2
  | .be _ _ => 0b00#2
  | .ble _ _ => 0b00#2
  | .bl _ _ => 0b00#2
  | .bleu _ _ => 0b00#2
  | .bcs _ _ => 0b00#2
  | .bneg _ _ => 0b00#2
  | .bvs _ _ => 0b00#2
  | .ba _ _ => 0b00#2
  | .bne _ _ => 0b00#2
  | .bg _ _ => 0b00#2
  | .bge _ _ => 0b00#2
  | .bgu _ _ => 0b00#2
  | .bcc _ _ => 0b00#2
  | .bpos _ _ => 0b00#2
  | .bvc _ _ => 0b00#2
  | .fbn _ _ => 0b00#2
  | .fbne _ _ => 0b00#2
  | .fblg _ _ => 0b00#2
  | .fbul _ _ => 0b00#2
  | .fbl _ _ => 0b00#2
  | .fbug _ _ => 0b00#2
  | .fbg _ _ => 0b00#2
  | .fbu _ _ => 0b00#2
  | .fba _ _ => 0b00#2
  | .fbe _ _ => 0b00#2
  | .fbue _ _ => 0b00#2
  | .fbge _ _ => 0b00#2
  | .fbuge _ _ => 0b00#2
  | .fble _ _ => 0b00#2
  | .fbule _ _ => 0b00#2
  | .fbo _ _ => 0b00#2
  | .cbn _ _ => 0b00#2
  | .cb123 _ _ => 0b00#2
  | .cb12 _ _ => 0b00#2
  | .cb13 _ _ => 0b00#2
  | .cb1 _ _ => 0b00#2
  | .cb23 _ _ => 0b00#2
  | .cb2 _ _ => 0b00#2
  | .cb3 _ _ => 0b00#2
  | .cba _ _ => 0b00#2
  | .cb0 _ _ => 0b00#2
  | .cb03 _ _ => 0b00#2
  | .cb02 _ _ => 0b00#2
  | .cb023 _ _ => 0b00#2
  | .cb01 _ _ => 0b00#2
  | .cb013 _ _ => 0b00#2
  | .cb012 _ _ => 0b00#2
  | .call _ => 0b01#2
  | .jmpl _ _ _ => 0b10#2
  | .rett _ _ => 0b10#2
  | .tn _ _ => 0b10#2
  | .te _ _ => 0b10#2
  | .tle _ _ => 0b10#2
  | .tl _ _ => 0b10#2
  | .tleu _ _ => 0b10#2
  | .tcs _ _ => 0b10#2
  | .tneg _ _ => 0b10#2
  | .tvs _ _ => 0b10#2
  | .ta _ _ => 0b10#2
  | .tne _ _ => 0b10#2
  | .tg _ _ => 0b10#2
  | .tge _ _ => 0b10#2
  | .tgu _ _ => 0b10#2
  | .tcc _ _ => 0b10#2
  | .tpos _ _ => 0b10#2
  | .tvc _ _ => 0b10#2
  | .rdy _ => 0b10#2
  | .rdpsr _ => 0b10#2
  | .rdwim _ => 0b10#2
  | .rdtbr _ => 0b10#2
  | .wry _ _ => 0b10#2
  | .wrpsr _ _ => 0b10#2
  | .wrwim _ _ => 0b10#2
  | .wrtbr _ _ => 0b10#2
  | .unimp _ => 0b00#2
  | .iflush _ _ => 0b10#2
  | .fitos _ _ _ => 0b10#2
  | .fitod _ _ _ => 0b10#2
  | .fitox _ _ _ => 0b10#2
  | .fstoi _ _ _ => 0b10#2
  | .fdtoi _ _ _ => 0b10#2
  | .fxtoi _ _ _ => 0b10#2
  | .fstod _ _ _ => 0b10#2
  | .fstox _ _ _ => 0b10#2
  | .fdtos _ _ _ => 0b10#2
  | .fdtox _ _ _ => 0b10#2
  | .fxtos _ _ _ => 0b10#2
  | .fxtod _ _ _ => 0b10#2
  | .fmovs _ _ _ => 0b10#2
  | .fnegs _ _ _ => 0b10#2
  | .fabss _ _ _ => 0b10#2
  | .fsqrts _ _ _ => 0b10#2
  | .fsqrtd _ _ _ => 0b10#2
  | .fsqrtx _ _ _ => 0b10#2
  | .fadds _ _ _ => 0b10#2
  | .faddd _ _ _ => 0b10#2
  | .faddx _ _ _ => 0b10#2
  | .fsubs _ _ _ => 0b10#2
  | .fsubd _ _ _ => 0b10#2
  | .fsubx _ _ _ => 0b10#2
  | .fmuls _ _ _ => 0b10#2
  | .fmuld _ _ _ => 0b10#2
  | .fmulx _ _ _ => 0b10#2
  | .fdivs _ _ _ => 0b10#2
  | .fdivd _ _ _ => 0b10#2
  | .fdivx _ _ _ => 0b10#2
  | .fcmps _ _ _ => 0b10#2
  | .fcmpd _ _ _ => 0b10#2
  | .fcmpx _ _ _ => 0b10#2
  | .fcmpes _ _ _ => 0b10#2
  | .fcmped _ _ _ => 0b10#2
  | .fcmpex _ _ _ => 0b10#2
  | .cpop1 _ _ _ _ => 0b10#2
  | .cpop2 _ _ _ _ => 0b10#2

/-- The word that encode writes has the op of its instruction. -/
def Sys2Proof.Laws.EncodeOp.Statement (i : Sys2Proof.Instr) : Prop :=
  Sys2Proof.fieldOp (Sys2Proof.encode i) = Sys2Proof.Laws.opOf i

theorem Sys2Proof.Laws.EncodeOp.ldsb (rd rs1 : Sys2Proof.Reg) (src : Sys2Proof.Operand2) : Sys2Proof.Laws.EncodeOp.Statement (.ldsb rd rs1 src) :=
  Sys2Proof.fieldOp_formOperand _ _ _ _ _
theorem Sys2Proof.Laws.EncodeOp.ldsh (rd rs1 : Sys2Proof.Reg) (src : Sys2Proof.Operand2) : Sys2Proof.Laws.EncodeOp.Statement (.ldsh rd rs1 src) :=
  Sys2Proof.fieldOp_formOperand _ _ _ _ _
theorem Sys2Proof.Laws.EncodeOp.ldub (rd rs1 : Sys2Proof.Reg) (src : Sys2Proof.Operand2) : Sys2Proof.Laws.EncodeOp.Statement (.ldub rd rs1 src) :=
  Sys2Proof.fieldOp_formOperand _ _ _ _ _
theorem Sys2Proof.Laws.EncodeOp.lduh (rd rs1 : Sys2Proof.Reg) (src : Sys2Proof.Operand2) : Sys2Proof.Laws.EncodeOp.Statement (.lduh rd rs1 src) :=
  Sys2Proof.fieldOp_formOperand _ _ _ _ _
theorem Sys2Proof.Laws.EncodeOp.ld (rd rs1 : Sys2Proof.Reg) (src : Sys2Proof.Operand2) : Sys2Proof.Laws.EncodeOp.Statement (.ld rd rs1 src) :=
  Sys2Proof.fieldOp_formOperand _ _ _ _ _
theorem Sys2Proof.Laws.EncodeOp.ldd (rd rs1 : Sys2Proof.Reg) (src : Sys2Proof.Operand2) : Sys2Proof.Laws.EncodeOp.Statement (.ldd rd rs1 src) :=
  Sys2Proof.fieldOp_formOperand _ _ _ _ _
theorem Sys2Proof.Laws.EncodeOp.ldsba (rd rs1 rs2 : Sys2Proof.Reg) (asi : BitVec 8) : Sys2Proof.Laws.EncodeOp.Statement (.ldsba rd rs1 rs2 asi) :=
  Sys2Proof.fieldOp_formAsi _ _ _ _ _
theorem Sys2Proof.Laws.EncodeOp.ldsha (rd rs1 rs2 : Sys2Proof.Reg) (asi : BitVec 8) : Sys2Proof.Laws.EncodeOp.Statement (.ldsha rd rs1 rs2 asi) :=
  Sys2Proof.fieldOp_formAsi _ _ _ _ _
theorem Sys2Proof.Laws.EncodeOp.lduba (rd rs1 rs2 : Sys2Proof.Reg) (asi : BitVec 8) : Sys2Proof.Laws.EncodeOp.Statement (.lduba rd rs1 rs2 asi) :=
  Sys2Proof.fieldOp_formAsi _ _ _ _ _
theorem Sys2Proof.Laws.EncodeOp.lduha (rd rs1 rs2 : Sys2Proof.Reg) (asi : BitVec 8) : Sys2Proof.Laws.EncodeOp.Statement (.lduha rd rs1 rs2 asi) :=
  Sys2Proof.fieldOp_formAsi _ _ _ _ _
theorem Sys2Proof.Laws.EncodeOp.lda (rd rs1 rs2 : Sys2Proof.Reg) (asi : BitVec 8) : Sys2Proof.Laws.EncodeOp.Statement (.lda rd rs1 rs2 asi) :=
  Sys2Proof.fieldOp_formAsi _ _ _ _ _
theorem Sys2Proof.Laws.EncodeOp.ldda (rd rs1 rs2 : Sys2Proof.Reg) (asi : BitVec 8) : Sys2Proof.Laws.EncodeOp.Statement (.ldda rd rs1 rs2 asi) :=
  Sys2Proof.fieldOp_formAsi _ _ _ _ _
theorem Sys2Proof.Laws.EncodeOp.ldf (rd rs1 : Sys2Proof.Reg) (src : Sys2Proof.Operand2) : Sys2Proof.Laws.EncodeOp.Statement (.ldf rd rs1 src) :=
  Sys2Proof.fieldOp_formOperand _ _ _ _ _
theorem Sys2Proof.Laws.EncodeOp.lddf (rd rs1 : Sys2Proof.Reg) (src : Sys2Proof.Operand2) : Sys2Proof.Laws.EncodeOp.Statement (.lddf rd rs1 src) :=
  Sys2Proof.fieldOp_formOperand _ _ _ _ _
theorem Sys2Proof.Laws.EncodeOp.ldfsr (rs1 : Sys2Proof.Reg) (src : Sys2Proof.Operand2) : Sys2Proof.Laws.EncodeOp.Statement (.ldfsr rs1 src) :=
  Sys2Proof.fieldOp_formOperand _ _ _ _ _
theorem Sys2Proof.Laws.EncodeOp.ldc (rd rs1 : Sys2Proof.Reg) (src : Sys2Proof.Operand2) : Sys2Proof.Laws.EncodeOp.Statement (.ldc rd rs1 src) :=
  Sys2Proof.fieldOp_formOperand _ _ _ _ _
theorem Sys2Proof.Laws.EncodeOp.lddc (rd rs1 : Sys2Proof.Reg) (src : Sys2Proof.Operand2) : Sys2Proof.Laws.EncodeOp.Statement (.lddc rd rs1 src) :=
  Sys2Proof.fieldOp_formOperand _ _ _ _ _
theorem Sys2Proof.Laws.EncodeOp.ldcsr (rs1 : Sys2Proof.Reg) (src : Sys2Proof.Operand2) : Sys2Proof.Laws.EncodeOp.Statement (.ldcsr rs1 src) :=
  Sys2Proof.fieldOp_formOperand _ _ _ _ _
theorem Sys2Proof.Laws.EncodeOp.stb (rd rs1 : Sys2Proof.Reg) (src : Sys2Proof.Operand2) : Sys2Proof.Laws.EncodeOp.Statement (.stb rd rs1 src) :=
  Sys2Proof.fieldOp_formOperand _ _ _ _ _
theorem Sys2Proof.Laws.EncodeOp.sth (rd rs1 : Sys2Proof.Reg) (src : Sys2Proof.Operand2) : Sys2Proof.Laws.EncodeOp.Statement (.sth rd rs1 src) :=
  Sys2Proof.fieldOp_formOperand _ _ _ _ _
theorem Sys2Proof.Laws.EncodeOp.st (rd rs1 : Sys2Proof.Reg) (src : Sys2Proof.Operand2) : Sys2Proof.Laws.EncodeOp.Statement (.st rd rs1 src) :=
  Sys2Proof.fieldOp_formOperand _ _ _ _ _
theorem Sys2Proof.Laws.EncodeOp.std (rd rs1 : Sys2Proof.Reg) (src : Sys2Proof.Operand2) : Sys2Proof.Laws.EncodeOp.Statement (.std rd rs1 src) :=
  Sys2Proof.fieldOp_formOperand _ _ _ _ _
theorem Sys2Proof.Laws.EncodeOp.stba (rd rs1 rs2 : Sys2Proof.Reg) (asi : BitVec 8) : Sys2Proof.Laws.EncodeOp.Statement (.stba rd rs1 rs2 asi) :=
  Sys2Proof.fieldOp_formAsi _ _ _ _ _
theorem Sys2Proof.Laws.EncodeOp.stha (rd rs1 rs2 : Sys2Proof.Reg) (asi : BitVec 8) : Sys2Proof.Laws.EncodeOp.Statement (.stha rd rs1 rs2 asi) :=
  Sys2Proof.fieldOp_formAsi _ _ _ _ _
theorem Sys2Proof.Laws.EncodeOp.sta (rd rs1 rs2 : Sys2Proof.Reg) (asi : BitVec 8) : Sys2Proof.Laws.EncodeOp.Statement (.sta rd rs1 rs2 asi) :=
  Sys2Proof.fieldOp_formAsi _ _ _ _ _
theorem Sys2Proof.Laws.EncodeOp.stda (rd rs1 rs2 : Sys2Proof.Reg) (asi : BitVec 8) : Sys2Proof.Laws.EncodeOp.Statement (.stda rd rs1 rs2 asi) :=
  Sys2Proof.fieldOp_formAsi _ _ _ _ _
theorem Sys2Proof.Laws.EncodeOp.stf (rd rs1 : Sys2Proof.Reg) (src : Sys2Proof.Operand2) : Sys2Proof.Laws.EncodeOp.Statement (.stf rd rs1 src) :=
  Sys2Proof.fieldOp_formOperand _ _ _ _ _
theorem Sys2Proof.Laws.EncodeOp.stdf (rd rs1 : Sys2Proof.Reg) (src : Sys2Proof.Operand2) : Sys2Proof.Laws.EncodeOp.Statement (.stdf rd rs1 src) :=
  Sys2Proof.fieldOp_formOperand _ _ _ _ _
theorem Sys2Proof.Laws.EncodeOp.stfsr (rs1 : Sys2Proof.Reg) (src : Sys2Proof.Operand2) : Sys2Proof.Laws.EncodeOp.Statement (.stfsr rs1 src) :=
  Sys2Proof.fieldOp_formOperand _ _ _ _ _
theorem Sys2Proof.Laws.EncodeOp.stdfq (rs1 : Sys2Proof.Reg) (src : Sys2Proof.Operand2) : Sys2Proof.Laws.EncodeOp.Statement (.stdfq rs1 src) :=
  Sys2Proof.fieldOp_formOperand _ _ _ _ _
theorem Sys2Proof.Laws.EncodeOp.stc (rd rs1 : Sys2Proof.Reg) (src : Sys2Proof.Operand2) : Sys2Proof.Laws.EncodeOp.Statement (.stc rd rs1 src) :=
  Sys2Proof.fieldOp_formOperand _ _ _ _ _
theorem Sys2Proof.Laws.EncodeOp.stdc (rd rs1 : Sys2Proof.Reg) (src : Sys2Proof.Operand2) : Sys2Proof.Laws.EncodeOp.Statement (.stdc rd rs1 src) :=
  Sys2Proof.fieldOp_formOperand _ _ _ _ _
theorem Sys2Proof.Laws.EncodeOp.stcsr (rs1 : Sys2Proof.Reg) (src : Sys2Proof.Operand2) : Sys2Proof.Laws.EncodeOp.Statement (.stcsr rs1 src) :=
  Sys2Proof.fieldOp_formOperand _ _ _ _ _
theorem Sys2Proof.Laws.EncodeOp.stdcq (rs1 : Sys2Proof.Reg) (src : Sys2Proof.Operand2) : Sys2Proof.Laws.EncodeOp.Statement (.stdcq rs1 src) :=
  Sys2Proof.fieldOp_formOperand _ _ _ _ _
theorem Sys2Proof.Laws.EncodeOp.ldstub (rd rs1 : Sys2Proof.Reg) (src : Sys2Proof.Operand2) : Sys2Proof.Laws.EncodeOp.Statement (.ldstub rd rs1 src) :=
  Sys2Proof.fieldOp_formOperand _ _ _ _ _
theorem Sys2Proof.Laws.EncodeOp.ldstuba (rd rs1 rs2 : Sys2Proof.Reg) (asi : BitVec 8) : Sys2Proof.Laws.EncodeOp.Statement (.ldstuba rd rs1 rs2 asi) :=
  Sys2Proof.fieldOp_formAsi _ _ _ _ _
theorem Sys2Proof.Laws.EncodeOp.swap (rd rs1 : Sys2Proof.Reg) (src : Sys2Proof.Operand2) : Sys2Proof.Laws.EncodeOp.Statement (.swap rd rs1 src) :=
  Sys2Proof.fieldOp_formOperand _ _ _ _ _
theorem Sys2Proof.Laws.EncodeOp.swapa (rd rs1 rs2 : Sys2Proof.Reg) (asi : BitVec 8) : Sys2Proof.Laws.EncodeOp.Statement (.swapa rd rs1 rs2 asi) :=
  Sys2Proof.fieldOp_formAsi _ _ _ _ _
theorem Sys2Proof.Laws.EncodeOp.add (rd rs1 : Sys2Proof.Reg) (src : Sys2Proof.Operand2) : Sys2Proof.Laws.EncodeOp.Statement (.add rd rs1 src) :=
  Sys2Proof.fieldOp_formOperand _ _ _ _ _
theorem Sys2Proof.Laws.EncodeOp.addcc (rd rs1 : Sys2Proof.Reg) (src : Sys2Proof.Operand2) : Sys2Proof.Laws.EncodeOp.Statement (.addcc rd rs1 src) :=
  Sys2Proof.fieldOp_formOperand _ _ _ _ _
theorem Sys2Proof.Laws.EncodeOp.addx (rd rs1 : Sys2Proof.Reg) (src : Sys2Proof.Operand2) : Sys2Proof.Laws.EncodeOp.Statement (.addx rd rs1 src) :=
  Sys2Proof.fieldOp_formOperand _ _ _ _ _
theorem Sys2Proof.Laws.EncodeOp.addxcc (rd rs1 : Sys2Proof.Reg) (src : Sys2Proof.Operand2) : Sys2Proof.Laws.EncodeOp.Statement (.addxcc rd rs1 src) :=
  Sys2Proof.fieldOp_formOperand _ _ _ _ _
theorem Sys2Proof.Laws.EncodeOp.taddcc (rd rs1 : Sys2Proof.Reg) (src : Sys2Proof.Operand2) : Sys2Proof.Laws.EncodeOp.Statement (.taddcc rd rs1 src) :=
  Sys2Proof.fieldOp_formOperand _ _ _ _ _
theorem Sys2Proof.Laws.EncodeOp.taddcctv (rd rs1 : Sys2Proof.Reg) (src : Sys2Proof.Operand2) : Sys2Proof.Laws.EncodeOp.Statement (.taddcctv rd rs1 src) :=
  Sys2Proof.fieldOp_formOperand _ _ _ _ _
theorem Sys2Proof.Laws.EncodeOp.tsubcc (rd rs1 : Sys2Proof.Reg) (src : Sys2Proof.Operand2) : Sys2Proof.Laws.EncodeOp.Statement (.tsubcc rd rs1 src) :=
  Sys2Proof.fieldOp_formOperand _ _ _ _ _
theorem Sys2Proof.Laws.EncodeOp.tsubcctv (rd rs1 : Sys2Proof.Reg) (src : Sys2Proof.Operand2) : Sys2Proof.Laws.EncodeOp.Statement (.tsubcctv rd rs1 src) :=
  Sys2Proof.fieldOp_formOperand _ _ _ _ _
theorem Sys2Proof.Laws.EncodeOp.sub (rd rs1 : Sys2Proof.Reg) (src : Sys2Proof.Operand2) : Sys2Proof.Laws.EncodeOp.Statement (.sub rd rs1 src) :=
  Sys2Proof.fieldOp_formOperand _ _ _ _ _
theorem Sys2Proof.Laws.EncodeOp.subcc (rd rs1 : Sys2Proof.Reg) (src : Sys2Proof.Operand2) : Sys2Proof.Laws.EncodeOp.Statement (.subcc rd rs1 src) :=
  Sys2Proof.fieldOp_formOperand _ _ _ _ _
theorem Sys2Proof.Laws.EncodeOp.subx (rd rs1 : Sys2Proof.Reg) (src : Sys2Proof.Operand2) : Sys2Proof.Laws.EncodeOp.Statement (.subx rd rs1 src) :=
  Sys2Proof.fieldOp_formOperand _ _ _ _ _
theorem Sys2Proof.Laws.EncodeOp.subxcc (rd rs1 : Sys2Proof.Reg) (src : Sys2Proof.Operand2) : Sys2Proof.Laws.EncodeOp.Statement (.subxcc rd rs1 src) :=
  Sys2Proof.fieldOp_formOperand _ _ _ _ _
theorem Sys2Proof.Laws.EncodeOp.mulscc (rd rs1 : Sys2Proof.Reg) (src : Sys2Proof.Operand2) : Sys2Proof.Laws.EncodeOp.Statement (.mulscc rd rs1 src) :=
  Sys2Proof.fieldOp_formOperand _ _ _ _ _
theorem Sys2Proof.Laws.EncodeOp.and (rd rs1 : Sys2Proof.Reg) (src : Sys2Proof.Operand2) : Sys2Proof.Laws.EncodeOp.Statement (.and rd rs1 src) :=
  Sys2Proof.fieldOp_formOperand _ _ _ _ _
theorem Sys2Proof.Laws.EncodeOp.andcc (rd rs1 : Sys2Proof.Reg) (src : Sys2Proof.Operand2) : Sys2Proof.Laws.EncodeOp.Statement (.andcc rd rs1 src) :=
  Sys2Proof.fieldOp_formOperand _ _ _ _ _
theorem Sys2Proof.Laws.EncodeOp.andn (rd rs1 : Sys2Proof.Reg) (src : Sys2Proof.Operand2) : Sys2Proof.Laws.EncodeOp.Statement (.andn rd rs1 src) :=
  Sys2Proof.fieldOp_formOperand _ _ _ _ _
theorem Sys2Proof.Laws.EncodeOp.andncc (rd rs1 : Sys2Proof.Reg) (src : Sys2Proof.Operand2) : Sys2Proof.Laws.EncodeOp.Statement (.andncc rd rs1 src) :=
  Sys2Proof.fieldOp_formOperand _ _ _ _ _
theorem Sys2Proof.Laws.EncodeOp.or (rd rs1 : Sys2Proof.Reg) (src : Sys2Proof.Operand2) : Sys2Proof.Laws.EncodeOp.Statement (.or rd rs1 src) :=
  Sys2Proof.fieldOp_formOperand _ _ _ _ _
theorem Sys2Proof.Laws.EncodeOp.orcc (rd rs1 : Sys2Proof.Reg) (src : Sys2Proof.Operand2) : Sys2Proof.Laws.EncodeOp.Statement (.orcc rd rs1 src) :=
  Sys2Proof.fieldOp_formOperand _ _ _ _ _
theorem Sys2Proof.Laws.EncodeOp.orn (rd rs1 : Sys2Proof.Reg) (src : Sys2Proof.Operand2) : Sys2Proof.Laws.EncodeOp.Statement (.orn rd rs1 src) :=
  Sys2Proof.fieldOp_formOperand _ _ _ _ _
theorem Sys2Proof.Laws.EncodeOp.orncc (rd rs1 : Sys2Proof.Reg) (src : Sys2Proof.Operand2) : Sys2Proof.Laws.EncodeOp.Statement (.orncc rd rs1 src) :=
  Sys2Proof.fieldOp_formOperand _ _ _ _ _
theorem Sys2Proof.Laws.EncodeOp.xor (rd rs1 : Sys2Proof.Reg) (src : Sys2Proof.Operand2) : Sys2Proof.Laws.EncodeOp.Statement (.xor rd rs1 src) :=
  Sys2Proof.fieldOp_formOperand _ _ _ _ _
theorem Sys2Proof.Laws.EncodeOp.xorcc (rd rs1 : Sys2Proof.Reg) (src : Sys2Proof.Operand2) : Sys2Proof.Laws.EncodeOp.Statement (.xorcc rd rs1 src) :=
  Sys2Proof.fieldOp_formOperand _ _ _ _ _
theorem Sys2Proof.Laws.EncodeOp.xnor (rd rs1 : Sys2Proof.Reg) (src : Sys2Proof.Operand2) : Sys2Proof.Laws.EncodeOp.Statement (.xnor rd rs1 src) :=
  Sys2Proof.fieldOp_formOperand _ _ _ _ _
theorem Sys2Proof.Laws.EncodeOp.xnorcc (rd rs1 : Sys2Proof.Reg) (src : Sys2Proof.Operand2) : Sys2Proof.Laws.EncodeOp.Statement (.xnorcc rd rs1 src) :=
  Sys2Proof.fieldOp_formOperand _ _ _ _ _
theorem Sys2Proof.Laws.EncodeOp.sll (rd rs1 : Sys2Proof.Reg) (count : Sys2Proof.ShiftCount) : Sys2Proof.Laws.EncodeOp.Statement (.sll rd rs1 count) :=
  Sys2Proof.fieldOp_formShift _ _ _ _
theorem Sys2Proof.Laws.EncodeOp.srl (rd rs1 : Sys2Proof.Reg) (count : Sys2Proof.ShiftCount) : Sys2Proof.Laws.EncodeOp.Statement (.srl rd rs1 count) :=
  Sys2Proof.fieldOp_formShift _ _ _ _
theorem Sys2Proof.Laws.EncodeOp.sra (rd rs1 : Sys2Proof.Reg) (count : Sys2Proof.ShiftCount) : Sys2Proof.Laws.EncodeOp.Statement (.sra rd rs1 count) :=
  Sys2Proof.fieldOp_formShift _ _ _ _
theorem Sys2Proof.Laws.EncodeOp.sethi (rd : Sys2Proof.Reg) (imm : BitVec 22) : Sys2Proof.Laws.EncodeOp.Statement (.sethi rd imm) :=
  Sys2Proof.fieldOp_formImm22 _ _ _
theorem Sys2Proof.Laws.EncodeOp.save (rd rs1 : Sys2Proof.Reg) (src : Sys2Proof.Operand2) : Sys2Proof.Laws.EncodeOp.Statement (.save rd rs1 src) :=
  Sys2Proof.fieldOp_formOperand _ _ _ _ _
theorem Sys2Proof.Laws.EncodeOp.restore (rd rs1 : Sys2Proof.Reg) (src : Sys2Proof.Operand2) : Sys2Proof.Laws.EncodeOp.Statement (.restore rd rs1 src) :=
  Sys2Proof.fieldOp_formOperand _ _ _ _ _
theorem Sys2Proof.Laws.EncodeOp.bn (annul : Bool) (disp : BitVec 22) : Sys2Proof.Laws.EncodeOp.Statement (.bn annul disp) :=
  Sys2Proof.fieldOp_formBranch _ _ _ _
theorem Sys2Proof.Laws.EncodeOp.be (annul : Bool) (disp : BitVec 22) : Sys2Proof.Laws.EncodeOp.Statement (.be annul disp) :=
  Sys2Proof.fieldOp_formBranch _ _ _ _
theorem Sys2Proof.Laws.EncodeOp.ble (annul : Bool) (disp : BitVec 22) : Sys2Proof.Laws.EncodeOp.Statement (.ble annul disp) :=
  Sys2Proof.fieldOp_formBranch _ _ _ _
theorem Sys2Proof.Laws.EncodeOp.bl (annul : Bool) (disp : BitVec 22) : Sys2Proof.Laws.EncodeOp.Statement (.bl annul disp) :=
  Sys2Proof.fieldOp_formBranch _ _ _ _
theorem Sys2Proof.Laws.EncodeOp.bleu (annul : Bool) (disp : BitVec 22) : Sys2Proof.Laws.EncodeOp.Statement (.bleu annul disp) :=
  Sys2Proof.fieldOp_formBranch _ _ _ _
theorem Sys2Proof.Laws.EncodeOp.bcs (annul : Bool) (disp : BitVec 22) : Sys2Proof.Laws.EncodeOp.Statement (.bcs annul disp) :=
  Sys2Proof.fieldOp_formBranch _ _ _ _
theorem Sys2Proof.Laws.EncodeOp.bneg (annul : Bool) (disp : BitVec 22) : Sys2Proof.Laws.EncodeOp.Statement (.bneg annul disp) :=
  Sys2Proof.fieldOp_formBranch _ _ _ _
theorem Sys2Proof.Laws.EncodeOp.bvs (annul : Bool) (disp : BitVec 22) : Sys2Proof.Laws.EncodeOp.Statement (.bvs annul disp) :=
  Sys2Proof.fieldOp_formBranch _ _ _ _
theorem Sys2Proof.Laws.EncodeOp.ba (annul : Bool) (disp : BitVec 22) : Sys2Proof.Laws.EncodeOp.Statement (.ba annul disp) :=
  Sys2Proof.fieldOp_formBranch _ _ _ _
theorem Sys2Proof.Laws.EncodeOp.bne (annul : Bool) (disp : BitVec 22) : Sys2Proof.Laws.EncodeOp.Statement (.bne annul disp) :=
  Sys2Proof.fieldOp_formBranch _ _ _ _
theorem Sys2Proof.Laws.EncodeOp.bg (annul : Bool) (disp : BitVec 22) : Sys2Proof.Laws.EncodeOp.Statement (.bg annul disp) :=
  Sys2Proof.fieldOp_formBranch _ _ _ _
theorem Sys2Proof.Laws.EncodeOp.bge (annul : Bool) (disp : BitVec 22) : Sys2Proof.Laws.EncodeOp.Statement (.bge annul disp) :=
  Sys2Proof.fieldOp_formBranch _ _ _ _
theorem Sys2Proof.Laws.EncodeOp.bgu (annul : Bool) (disp : BitVec 22) : Sys2Proof.Laws.EncodeOp.Statement (.bgu annul disp) :=
  Sys2Proof.fieldOp_formBranch _ _ _ _
theorem Sys2Proof.Laws.EncodeOp.bcc (annul : Bool) (disp : BitVec 22) : Sys2Proof.Laws.EncodeOp.Statement (.bcc annul disp) :=
  Sys2Proof.fieldOp_formBranch _ _ _ _
theorem Sys2Proof.Laws.EncodeOp.bpos (annul : Bool) (disp : BitVec 22) : Sys2Proof.Laws.EncodeOp.Statement (.bpos annul disp) :=
  Sys2Proof.fieldOp_formBranch _ _ _ _
theorem Sys2Proof.Laws.EncodeOp.bvc (annul : Bool) (disp : BitVec 22) : Sys2Proof.Laws.EncodeOp.Statement (.bvc annul disp) :=
  Sys2Proof.fieldOp_formBranch _ _ _ _
theorem Sys2Proof.Laws.EncodeOp.fbn (annul : Bool) (disp : BitVec 22) : Sys2Proof.Laws.EncodeOp.Statement (.fbn annul disp) :=
  Sys2Proof.fieldOp_formBranch _ _ _ _
theorem Sys2Proof.Laws.EncodeOp.fbne (annul : Bool) (disp : BitVec 22) : Sys2Proof.Laws.EncodeOp.Statement (.fbne annul disp) :=
  Sys2Proof.fieldOp_formBranch _ _ _ _
theorem Sys2Proof.Laws.EncodeOp.fblg (annul : Bool) (disp : BitVec 22) : Sys2Proof.Laws.EncodeOp.Statement (.fblg annul disp) :=
  Sys2Proof.fieldOp_formBranch _ _ _ _
theorem Sys2Proof.Laws.EncodeOp.fbul (annul : Bool) (disp : BitVec 22) : Sys2Proof.Laws.EncodeOp.Statement (.fbul annul disp) :=
  Sys2Proof.fieldOp_formBranch _ _ _ _
theorem Sys2Proof.Laws.EncodeOp.fbl (annul : Bool) (disp : BitVec 22) : Sys2Proof.Laws.EncodeOp.Statement (.fbl annul disp) :=
  Sys2Proof.fieldOp_formBranch _ _ _ _
theorem Sys2Proof.Laws.EncodeOp.fbug (annul : Bool) (disp : BitVec 22) : Sys2Proof.Laws.EncodeOp.Statement (.fbug annul disp) :=
  Sys2Proof.fieldOp_formBranch _ _ _ _
theorem Sys2Proof.Laws.EncodeOp.fbg (annul : Bool) (disp : BitVec 22) : Sys2Proof.Laws.EncodeOp.Statement (.fbg annul disp) :=
  Sys2Proof.fieldOp_formBranch _ _ _ _
theorem Sys2Proof.Laws.EncodeOp.fbu (annul : Bool) (disp : BitVec 22) : Sys2Proof.Laws.EncodeOp.Statement (.fbu annul disp) :=
  Sys2Proof.fieldOp_formBranch _ _ _ _
theorem Sys2Proof.Laws.EncodeOp.fba (annul : Bool) (disp : BitVec 22) : Sys2Proof.Laws.EncodeOp.Statement (.fba annul disp) :=
  Sys2Proof.fieldOp_formBranch _ _ _ _
theorem Sys2Proof.Laws.EncodeOp.fbe (annul : Bool) (disp : BitVec 22) : Sys2Proof.Laws.EncodeOp.Statement (.fbe annul disp) :=
  Sys2Proof.fieldOp_formBranch _ _ _ _
theorem Sys2Proof.Laws.EncodeOp.fbue (annul : Bool) (disp : BitVec 22) : Sys2Proof.Laws.EncodeOp.Statement (.fbue annul disp) :=
  Sys2Proof.fieldOp_formBranch _ _ _ _
theorem Sys2Proof.Laws.EncodeOp.fbge (annul : Bool) (disp : BitVec 22) : Sys2Proof.Laws.EncodeOp.Statement (.fbge annul disp) :=
  Sys2Proof.fieldOp_formBranch _ _ _ _
theorem Sys2Proof.Laws.EncodeOp.fbuge (annul : Bool) (disp : BitVec 22) : Sys2Proof.Laws.EncodeOp.Statement (.fbuge annul disp) :=
  Sys2Proof.fieldOp_formBranch _ _ _ _
theorem Sys2Proof.Laws.EncodeOp.fble (annul : Bool) (disp : BitVec 22) : Sys2Proof.Laws.EncodeOp.Statement (.fble annul disp) :=
  Sys2Proof.fieldOp_formBranch _ _ _ _
theorem Sys2Proof.Laws.EncodeOp.fbule (annul : Bool) (disp : BitVec 22) : Sys2Proof.Laws.EncodeOp.Statement (.fbule annul disp) :=
  Sys2Proof.fieldOp_formBranch _ _ _ _
theorem Sys2Proof.Laws.EncodeOp.fbo (annul : Bool) (disp : BitVec 22) : Sys2Proof.Laws.EncodeOp.Statement (.fbo annul disp) :=
  Sys2Proof.fieldOp_formBranch _ _ _ _
theorem Sys2Proof.Laws.EncodeOp.cbn (annul : Bool) (disp : BitVec 22) : Sys2Proof.Laws.EncodeOp.Statement (.cbn annul disp) :=
  Sys2Proof.fieldOp_formBranch _ _ _ _
theorem Sys2Proof.Laws.EncodeOp.cb123 (annul : Bool) (disp : BitVec 22) : Sys2Proof.Laws.EncodeOp.Statement (.cb123 annul disp) :=
  Sys2Proof.fieldOp_formBranch _ _ _ _
theorem Sys2Proof.Laws.EncodeOp.cb12 (annul : Bool) (disp : BitVec 22) : Sys2Proof.Laws.EncodeOp.Statement (.cb12 annul disp) :=
  Sys2Proof.fieldOp_formBranch _ _ _ _
theorem Sys2Proof.Laws.EncodeOp.cb13 (annul : Bool) (disp : BitVec 22) : Sys2Proof.Laws.EncodeOp.Statement (.cb13 annul disp) :=
  Sys2Proof.fieldOp_formBranch _ _ _ _
theorem Sys2Proof.Laws.EncodeOp.cb1 (annul : Bool) (disp : BitVec 22) : Sys2Proof.Laws.EncodeOp.Statement (.cb1 annul disp) :=
  Sys2Proof.fieldOp_formBranch _ _ _ _
theorem Sys2Proof.Laws.EncodeOp.cb23 (annul : Bool) (disp : BitVec 22) : Sys2Proof.Laws.EncodeOp.Statement (.cb23 annul disp) :=
  Sys2Proof.fieldOp_formBranch _ _ _ _
theorem Sys2Proof.Laws.EncodeOp.cb2 (annul : Bool) (disp : BitVec 22) : Sys2Proof.Laws.EncodeOp.Statement (.cb2 annul disp) :=
  Sys2Proof.fieldOp_formBranch _ _ _ _
theorem Sys2Proof.Laws.EncodeOp.cb3 (annul : Bool) (disp : BitVec 22) : Sys2Proof.Laws.EncodeOp.Statement (.cb3 annul disp) :=
  Sys2Proof.fieldOp_formBranch _ _ _ _
theorem Sys2Proof.Laws.EncodeOp.cba (annul : Bool) (disp : BitVec 22) : Sys2Proof.Laws.EncodeOp.Statement (.cba annul disp) :=
  Sys2Proof.fieldOp_formBranch _ _ _ _
theorem Sys2Proof.Laws.EncodeOp.cb0 (annul : Bool) (disp : BitVec 22) : Sys2Proof.Laws.EncodeOp.Statement (.cb0 annul disp) :=
  Sys2Proof.fieldOp_formBranch _ _ _ _
theorem Sys2Proof.Laws.EncodeOp.cb03 (annul : Bool) (disp : BitVec 22) : Sys2Proof.Laws.EncodeOp.Statement (.cb03 annul disp) :=
  Sys2Proof.fieldOp_formBranch _ _ _ _
theorem Sys2Proof.Laws.EncodeOp.cb02 (annul : Bool) (disp : BitVec 22) : Sys2Proof.Laws.EncodeOp.Statement (.cb02 annul disp) :=
  Sys2Proof.fieldOp_formBranch _ _ _ _
theorem Sys2Proof.Laws.EncodeOp.cb023 (annul : Bool) (disp : BitVec 22) : Sys2Proof.Laws.EncodeOp.Statement (.cb023 annul disp) :=
  Sys2Proof.fieldOp_formBranch _ _ _ _
theorem Sys2Proof.Laws.EncodeOp.cb01 (annul : Bool) (disp : BitVec 22) : Sys2Proof.Laws.EncodeOp.Statement (.cb01 annul disp) :=
  Sys2Proof.fieldOp_formBranch _ _ _ _
theorem Sys2Proof.Laws.EncodeOp.cb013 (annul : Bool) (disp : BitVec 22) : Sys2Proof.Laws.EncodeOp.Statement (.cb013 annul disp) :=
  Sys2Proof.fieldOp_formBranch _ _ _ _
theorem Sys2Proof.Laws.EncodeOp.cb012 (annul : Bool) (disp : BitVec 22) : Sys2Proof.Laws.EncodeOp.Statement (.cb012 annul disp) :=
  Sys2Proof.fieldOp_formBranch _ _ _ _
theorem Sys2Proof.Laws.EncodeOp.call (disp : BitVec 30) : Sys2Proof.Laws.EncodeOp.Statement (.call disp) :=
  Sys2Proof.fieldOp_formCall _
theorem Sys2Proof.Laws.EncodeOp.jmpl (rd rs1 : Sys2Proof.Reg) (src : Sys2Proof.Operand2) : Sys2Proof.Laws.EncodeOp.Statement (.jmpl rd rs1 src) :=
  Sys2Proof.fieldOp_formOperand _ _ _ _ _
theorem Sys2Proof.Laws.EncodeOp.rett (rs1 : Sys2Proof.Reg) (src : Sys2Proof.Operand2) : Sys2Proof.Laws.EncodeOp.Statement (.rett rs1 src) :=
  Sys2Proof.fieldOp_formOperand _ _ _ _ _
theorem Sys2Proof.Laws.EncodeOp.tn (rs1 : Sys2Proof.Reg) (src : Sys2Proof.Operand2) : Sys2Proof.Laws.EncodeOp.Statement (.tn rs1 src) :=
  Sys2Proof.fieldOp_formOperand _ _ _ _ _
theorem Sys2Proof.Laws.EncodeOp.te (rs1 : Sys2Proof.Reg) (src : Sys2Proof.Operand2) : Sys2Proof.Laws.EncodeOp.Statement (.te rs1 src) :=
  Sys2Proof.fieldOp_formOperand _ _ _ _ _
theorem Sys2Proof.Laws.EncodeOp.tle (rs1 : Sys2Proof.Reg) (src : Sys2Proof.Operand2) : Sys2Proof.Laws.EncodeOp.Statement (.tle rs1 src) :=
  Sys2Proof.fieldOp_formOperand _ _ _ _ _
theorem Sys2Proof.Laws.EncodeOp.tl (rs1 : Sys2Proof.Reg) (src : Sys2Proof.Operand2) : Sys2Proof.Laws.EncodeOp.Statement (.tl rs1 src) :=
  Sys2Proof.fieldOp_formOperand _ _ _ _ _
theorem Sys2Proof.Laws.EncodeOp.tleu (rs1 : Sys2Proof.Reg) (src : Sys2Proof.Operand2) : Sys2Proof.Laws.EncodeOp.Statement (.tleu rs1 src) :=
  Sys2Proof.fieldOp_formOperand _ _ _ _ _
theorem Sys2Proof.Laws.EncodeOp.tcs (rs1 : Sys2Proof.Reg) (src : Sys2Proof.Operand2) : Sys2Proof.Laws.EncodeOp.Statement (.tcs rs1 src) :=
  Sys2Proof.fieldOp_formOperand _ _ _ _ _
theorem Sys2Proof.Laws.EncodeOp.tneg (rs1 : Sys2Proof.Reg) (src : Sys2Proof.Operand2) : Sys2Proof.Laws.EncodeOp.Statement (.tneg rs1 src) :=
  Sys2Proof.fieldOp_formOperand _ _ _ _ _
theorem Sys2Proof.Laws.EncodeOp.tvs (rs1 : Sys2Proof.Reg) (src : Sys2Proof.Operand2) : Sys2Proof.Laws.EncodeOp.Statement (.tvs rs1 src) :=
  Sys2Proof.fieldOp_formOperand _ _ _ _ _
theorem Sys2Proof.Laws.EncodeOp.ta (rs1 : Sys2Proof.Reg) (src : Sys2Proof.Operand2) : Sys2Proof.Laws.EncodeOp.Statement (.ta rs1 src) :=
  Sys2Proof.fieldOp_formOperand _ _ _ _ _
theorem Sys2Proof.Laws.EncodeOp.tne (rs1 : Sys2Proof.Reg) (src : Sys2Proof.Operand2) : Sys2Proof.Laws.EncodeOp.Statement (.tne rs1 src) :=
  Sys2Proof.fieldOp_formOperand _ _ _ _ _
theorem Sys2Proof.Laws.EncodeOp.tg (rs1 : Sys2Proof.Reg) (src : Sys2Proof.Operand2) : Sys2Proof.Laws.EncodeOp.Statement (.tg rs1 src) :=
  Sys2Proof.fieldOp_formOperand _ _ _ _ _
theorem Sys2Proof.Laws.EncodeOp.tge (rs1 : Sys2Proof.Reg) (src : Sys2Proof.Operand2) : Sys2Proof.Laws.EncodeOp.Statement (.tge rs1 src) :=
  Sys2Proof.fieldOp_formOperand _ _ _ _ _
theorem Sys2Proof.Laws.EncodeOp.tgu (rs1 : Sys2Proof.Reg) (src : Sys2Proof.Operand2) : Sys2Proof.Laws.EncodeOp.Statement (.tgu rs1 src) :=
  Sys2Proof.fieldOp_formOperand _ _ _ _ _
theorem Sys2Proof.Laws.EncodeOp.tcc (rs1 : Sys2Proof.Reg) (src : Sys2Proof.Operand2) : Sys2Proof.Laws.EncodeOp.Statement (.tcc rs1 src) :=
  Sys2Proof.fieldOp_formOperand _ _ _ _ _
theorem Sys2Proof.Laws.EncodeOp.tpos (rs1 : Sys2Proof.Reg) (src : Sys2Proof.Operand2) : Sys2Proof.Laws.EncodeOp.Statement (.tpos rs1 src) :=
  Sys2Proof.fieldOp_formOperand _ _ _ _ _
theorem Sys2Proof.Laws.EncodeOp.tvc (rs1 : Sys2Proof.Reg) (src : Sys2Proof.Operand2) : Sys2Proof.Laws.EncodeOp.Statement (.tvc rs1 src) :=
  Sys2Proof.fieldOp_formOperand _ _ _ _ _
theorem Sys2Proof.Laws.EncodeOp.rdy (rd : Sys2Proof.Reg) : Sys2Proof.Laws.EncodeOp.Statement (.rdy rd) :=
  Sys2Proof.fieldOp_formOperand _ _ _ _ _
theorem Sys2Proof.Laws.EncodeOp.rdpsr (rd : Sys2Proof.Reg) : Sys2Proof.Laws.EncodeOp.Statement (.rdpsr rd) :=
  Sys2Proof.fieldOp_formOperand _ _ _ _ _
theorem Sys2Proof.Laws.EncodeOp.rdwim (rd : Sys2Proof.Reg) : Sys2Proof.Laws.EncodeOp.Statement (.rdwim rd) :=
  Sys2Proof.fieldOp_formOperand _ _ _ _ _
theorem Sys2Proof.Laws.EncodeOp.rdtbr (rd : Sys2Proof.Reg) : Sys2Proof.Laws.EncodeOp.Statement (.rdtbr rd) :=
  Sys2Proof.fieldOp_formOperand _ _ _ _ _
theorem Sys2Proof.Laws.EncodeOp.wry (rs1 : Sys2Proof.Reg) (src : Sys2Proof.Operand2) : Sys2Proof.Laws.EncodeOp.Statement (.wry rs1 src) :=
  Sys2Proof.fieldOp_formOperand _ _ _ _ _
theorem Sys2Proof.Laws.EncodeOp.wrpsr (rs1 : Sys2Proof.Reg) (src : Sys2Proof.Operand2) : Sys2Proof.Laws.EncodeOp.Statement (.wrpsr rs1 src) :=
  Sys2Proof.fieldOp_formOperand _ _ _ _ _
theorem Sys2Proof.Laws.EncodeOp.wrwim (rs1 : Sys2Proof.Reg) (src : Sys2Proof.Operand2) : Sys2Proof.Laws.EncodeOp.Statement (.wrwim rs1 src) :=
  Sys2Proof.fieldOp_formOperand _ _ _ _ _
theorem Sys2Proof.Laws.EncodeOp.wrtbr (rs1 : Sys2Proof.Reg) (src : Sys2Proof.Operand2) : Sys2Proof.Laws.EncodeOp.Statement (.wrtbr rs1 src) :=
  Sys2Proof.fieldOp_formOperand _ _ _ _ _
theorem Sys2Proof.Laws.EncodeOp.unimp (const : BitVec 22) : Sys2Proof.Laws.EncodeOp.Statement (.unimp const) :=
  Sys2Proof.fieldOp_formImm22 _ _ _
theorem Sys2Proof.Laws.EncodeOp.iflush (rs1 : Sys2Proof.Reg) (src : Sys2Proof.Operand2) : Sys2Proof.Laws.EncodeOp.Statement (.iflush rs1 src) :=
  Sys2Proof.fieldOp_formOperand _ _ _ _ _
theorem Sys2Proof.Laws.EncodeOp.fitos (rd rs1 rs2 : Sys2Proof.Reg) : Sys2Proof.Laws.EncodeOp.Statement (.fitos rd rs1 rs2) :=
  Sys2Proof.fieldOp_formOpf _ _ _ _ _
theorem Sys2Proof.Laws.EncodeOp.fitod (rd rs1 rs2 : Sys2Proof.Reg) : Sys2Proof.Laws.EncodeOp.Statement (.fitod rd rs1 rs2) :=
  Sys2Proof.fieldOp_formOpf _ _ _ _ _
theorem Sys2Proof.Laws.EncodeOp.fitox (rd rs1 rs2 : Sys2Proof.Reg) : Sys2Proof.Laws.EncodeOp.Statement (.fitox rd rs1 rs2) :=
  Sys2Proof.fieldOp_formOpf _ _ _ _ _
theorem Sys2Proof.Laws.EncodeOp.fstoi (rd rs1 rs2 : Sys2Proof.Reg) : Sys2Proof.Laws.EncodeOp.Statement (.fstoi rd rs1 rs2) :=
  Sys2Proof.fieldOp_formOpf _ _ _ _ _
theorem Sys2Proof.Laws.EncodeOp.fdtoi (rd rs1 rs2 : Sys2Proof.Reg) : Sys2Proof.Laws.EncodeOp.Statement (.fdtoi rd rs1 rs2) :=
  Sys2Proof.fieldOp_formOpf _ _ _ _ _
theorem Sys2Proof.Laws.EncodeOp.fxtoi (rd rs1 rs2 : Sys2Proof.Reg) : Sys2Proof.Laws.EncodeOp.Statement (.fxtoi rd rs1 rs2) :=
  Sys2Proof.fieldOp_formOpf _ _ _ _ _
theorem Sys2Proof.Laws.EncodeOp.fstod (rd rs1 rs2 : Sys2Proof.Reg) : Sys2Proof.Laws.EncodeOp.Statement (.fstod rd rs1 rs2) :=
  Sys2Proof.fieldOp_formOpf _ _ _ _ _
theorem Sys2Proof.Laws.EncodeOp.fstox (rd rs1 rs2 : Sys2Proof.Reg) : Sys2Proof.Laws.EncodeOp.Statement (.fstox rd rs1 rs2) :=
  Sys2Proof.fieldOp_formOpf _ _ _ _ _
theorem Sys2Proof.Laws.EncodeOp.fdtos (rd rs1 rs2 : Sys2Proof.Reg) : Sys2Proof.Laws.EncodeOp.Statement (.fdtos rd rs1 rs2) :=
  Sys2Proof.fieldOp_formOpf _ _ _ _ _
theorem Sys2Proof.Laws.EncodeOp.fdtox (rd rs1 rs2 : Sys2Proof.Reg) : Sys2Proof.Laws.EncodeOp.Statement (.fdtox rd rs1 rs2) :=
  Sys2Proof.fieldOp_formOpf _ _ _ _ _
theorem Sys2Proof.Laws.EncodeOp.fxtos (rd rs1 rs2 : Sys2Proof.Reg) : Sys2Proof.Laws.EncodeOp.Statement (.fxtos rd rs1 rs2) :=
  Sys2Proof.fieldOp_formOpf _ _ _ _ _
theorem Sys2Proof.Laws.EncodeOp.fxtod (rd rs1 rs2 : Sys2Proof.Reg) : Sys2Proof.Laws.EncodeOp.Statement (.fxtod rd rs1 rs2) :=
  Sys2Proof.fieldOp_formOpf _ _ _ _ _
theorem Sys2Proof.Laws.EncodeOp.fmovs (rd rs1 rs2 : Sys2Proof.Reg) : Sys2Proof.Laws.EncodeOp.Statement (.fmovs rd rs1 rs2) :=
  Sys2Proof.fieldOp_formOpf _ _ _ _ _
theorem Sys2Proof.Laws.EncodeOp.fnegs (rd rs1 rs2 : Sys2Proof.Reg) : Sys2Proof.Laws.EncodeOp.Statement (.fnegs rd rs1 rs2) :=
  Sys2Proof.fieldOp_formOpf _ _ _ _ _
theorem Sys2Proof.Laws.EncodeOp.fabss (rd rs1 rs2 : Sys2Proof.Reg) : Sys2Proof.Laws.EncodeOp.Statement (.fabss rd rs1 rs2) :=
  Sys2Proof.fieldOp_formOpf _ _ _ _ _
theorem Sys2Proof.Laws.EncodeOp.fsqrts (rd rs1 rs2 : Sys2Proof.Reg) : Sys2Proof.Laws.EncodeOp.Statement (.fsqrts rd rs1 rs2) :=
  Sys2Proof.fieldOp_formOpf _ _ _ _ _
theorem Sys2Proof.Laws.EncodeOp.fsqrtd (rd rs1 rs2 : Sys2Proof.Reg) : Sys2Proof.Laws.EncodeOp.Statement (.fsqrtd rd rs1 rs2) :=
  Sys2Proof.fieldOp_formOpf _ _ _ _ _
theorem Sys2Proof.Laws.EncodeOp.fsqrtx (rd rs1 rs2 : Sys2Proof.Reg) : Sys2Proof.Laws.EncodeOp.Statement (.fsqrtx rd rs1 rs2) :=
  Sys2Proof.fieldOp_formOpf _ _ _ _ _
theorem Sys2Proof.Laws.EncodeOp.fadds (rd rs1 rs2 : Sys2Proof.Reg) : Sys2Proof.Laws.EncodeOp.Statement (.fadds rd rs1 rs2) :=
  Sys2Proof.fieldOp_formOpf _ _ _ _ _
theorem Sys2Proof.Laws.EncodeOp.faddd (rd rs1 rs2 : Sys2Proof.Reg) : Sys2Proof.Laws.EncodeOp.Statement (.faddd rd rs1 rs2) :=
  Sys2Proof.fieldOp_formOpf _ _ _ _ _
theorem Sys2Proof.Laws.EncodeOp.faddx (rd rs1 rs2 : Sys2Proof.Reg) : Sys2Proof.Laws.EncodeOp.Statement (.faddx rd rs1 rs2) :=
  Sys2Proof.fieldOp_formOpf _ _ _ _ _
theorem Sys2Proof.Laws.EncodeOp.fsubs (rd rs1 rs2 : Sys2Proof.Reg) : Sys2Proof.Laws.EncodeOp.Statement (.fsubs rd rs1 rs2) :=
  Sys2Proof.fieldOp_formOpf _ _ _ _ _
theorem Sys2Proof.Laws.EncodeOp.fsubd (rd rs1 rs2 : Sys2Proof.Reg) : Sys2Proof.Laws.EncodeOp.Statement (.fsubd rd rs1 rs2) :=
  Sys2Proof.fieldOp_formOpf _ _ _ _ _
theorem Sys2Proof.Laws.EncodeOp.fsubx (rd rs1 rs2 : Sys2Proof.Reg) : Sys2Proof.Laws.EncodeOp.Statement (.fsubx rd rs1 rs2) :=
  Sys2Proof.fieldOp_formOpf _ _ _ _ _
theorem Sys2Proof.Laws.EncodeOp.fmuls (rd rs1 rs2 : Sys2Proof.Reg) : Sys2Proof.Laws.EncodeOp.Statement (.fmuls rd rs1 rs2) :=
  Sys2Proof.fieldOp_formOpf _ _ _ _ _
theorem Sys2Proof.Laws.EncodeOp.fmuld (rd rs1 rs2 : Sys2Proof.Reg) : Sys2Proof.Laws.EncodeOp.Statement (.fmuld rd rs1 rs2) :=
  Sys2Proof.fieldOp_formOpf _ _ _ _ _
theorem Sys2Proof.Laws.EncodeOp.fmulx (rd rs1 rs2 : Sys2Proof.Reg) : Sys2Proof.Laws.EncodeOp.Statement (.fmulx rd rs1 rs2) :=
  Sys2Proof.fieldOp_formOpf _ _ _ _ _
theorem Sys2Proof.Laws.EncodeOp.fdivs (rd rs1 rs2 : Sys2Proof.Reg) : Sys2Proof.Laws.EncodeOp.Statement (.fdivs rd rs1 rs2) :=
  Sys2Proof.fieldOp_formOpf _ _ _ _ _
theorem Sys2Proof.Laws.EncodeOp.fdivd (rd rs1 rs2 : Sys2Proof.Reg) : Sys2Proof.Laws.EncodeOp.Statement (.fdivd rd rs1 rs2) :=
  Sys2Proof.fieldOp_formOpf _ _ _ _ _
theorem Sys2Proof.Laws.EncodeOp.fdivx (rd rs1 rs2 : Sys2Proof.Reg) : Sys2Proof.Laws.EncodeOp.Statement (.fdivx rd rs1 rs2) :=
  Sys2Proof.fieldOp_formOpf _ _ _ _ _
theorem Sys2Proof.Laws.EncodeOp.fcmps (rd rs1 rs2 : Sys2Proof.Reg) : Sys2Proof.Laws.EncodeOp.Statement (.fcmps rd rs1 rs2) :=
  Sys2Proof.fieldOp_formOpf _ _ _ _ _
theorem Sys2Proof.Laws.EncodeOp.fcmpd (rd rs1 rs2 : Sys2Proof.Reg) : Sys2Proof.Laws.EncodeOp.Statement (.fcmpd rd rs1 rs2) :=
  Sys2Proof.fieldOp_formOpf _ _ _ _ _
theorem Sys2Proof.Laws.EncodeOp.fcmpx (rd rs1 rs2 : Sys2Proof.Reg) : Sys2Proof.Laws.EncodeOp.Statement (.fcmpx rd rs1 rs2) :=
  Sys2Proof.fieldOp_formOpf _ _ _ _ _
theorem Sys2Proof.Laws.EncodeOp.fcmpes (rd rs1 rs2 : Sys2Proof.Reg) : Sys2Proof.Laws.EncodeOp.Statement (.fcmpes rd rs1 rs2) :=
  Sys2Proof.fieldOp_formOpf _ _ _ _ _
theorem Sys2Proof.Laws.EncodeOp.fcmped (rd rs1 rs2 : Sys2Proof.Reg) : Sys2Proof.Laws.EncodeOp.Statement (.fcmped rd rs1 rs2) :=
  Sys2Proof.fieldOp_formOpf _ _ _ _ _
theorem Sys2Proof.Laws.EncodeOp.fcmpex (rd rs1 rs2 : Sys2Proof.Reg) : Sys2Proof.Laws.EncodeOp.Statement (.fcmpex rd rs1 rs2) :=
  Sys2Proof.fieldOp_formOpf _ _ _ _ _
theorem Sys2Proof.Laws.EncodeOp.cpop1 (rd rs1 : Sys2Proof.Reg) (opc : BitVec 9) (rs2 : Sys2Proof.Reg) : Sys2Proof.Laws.EncodeOp.Statement (.cpop1 rd rs1 opc rs2) :=
  Sys2Proof.fieldOp_formOpf _ _ _ _ _
theorem Sys2Proof.Laws.EncodeOp.cpop2 (rd rs1 : Sys2Proof.Reg) (opc : BitVec 9) (rs2 : Sys2Proof.Reg) : Sys2Proof.Laws.EncodeOp.Statement (.cpop2 rd rs1 opc rs2) :=
  Sys2Proof.fieldOp_formOpf _ _ _ _ _
end

