-- ==== Sys2Proof/Tests/Slice0.lean ====
section
/-! SUPPORT. Tests: decoding of a word written out for every instruction, the refusals of WellFormed, single steps from the spec's
vectors, and a witness for the hypotheses of each statement. -/

open Sys2Proof Sys2Proof.Machine

namespace Sys2Proof.Tests

/-! ### Well-formedness: an ill-formed term for each check -/

theorem test_wellFormed_refuses_odd_ldd : ¬ (Instr.ldd 1 0 (.imm 0)).WellFormed := by decide
theorem test_wellFormed_refuses_odd_ldda : ¬ (Instr.ldda 31 0 0 11).WellFormed := by decide
theorem test_wellFormed_refuses_odd_lddf : ¬ (Instr.lddf 3 0 (.imm 0)).WellFormed := by decide
theorem test_wellFormed_refuses_odd_lddc : ¬ (Instr.lddc 5 0 (.imm 0)).WellFormed := by decide
theorem test_wellFormed_refuses_odd_std : ¬ (Instr.std 7 0 (.reg 0)).WellFormed := by decide
theorem test_wellFormed_refuses_odd_stda : ¬ (Instr.stda 9 0 0 10).WellFormed := by decide
theorem test_wellFormed_refuses_odd_stdf : ¬ (Instr.stdf 15 0 (.imm 0)).WellFormed := by decide
theorem test_wellFormed_refuses_odd_stdc : ¬ (Instr.stdc 17 0 (.imm 0)).WellFormed := by decide

/-! ### Decoding: the fields of a word written out from the opcode table, one word for each instruction -/

theorem test_decode_integer_loads :
    decodeWord (0b11#2 ++ 0b00010#5 ++ 0b001001#6 ++ 0b00001#5 ++ 0b0#1 ++ 0b0000000000011#13) = .ok (.ldsb 2 1 (.reg 3)) ∧
    decodeWord (0b11#2 ++ 0b11110#5 ++ 0b001010#6 ++ 0b11111#5 ++ 0b1#1 ++ 0b1000000000000#13) = .ok (.ldsh 30 31 (.imm (-4096))) ∧
    decodeWord (0b11#2 ++ 0b01110#5 ++ 0b000001#6 ++ 0b10000#5 ++ 0b0#1 ++ 0b0000000000111#13) = .ok (.ldub 14 16 (.reg 7)) ∧
    decodeWord (0b11#2 ++ 0b00100#5 ++ 0b000010#6 ++ 0b01001#5 ++ 0b1#1 ++ 0b0000100100011#13) = .ok (.lduh 4 9 (.imm 291)) ∧
    decodeWord (0b11#2 ++ 0b01000#5 ++ 0b000000#6 ++ 0b11000#5 ++ 0b0#1 ++ 0b0000000000000#13) = .ok (.ld 8 24 (.reg 0)) ∧
    decodeWord (0b11#2 ++ 0b00010#5 ++ 0b000011#6 ++ 0b00001#5 ++ 0b1#1 ++ 0b1000000000000#13) = .ok (.ldd 2 1 (.imm (-4096))) ∧
    decodeWord (0b11#2 ++ 0b11110#5 ++ 0b011001#6 ++ 0b11111#5 ++ 0b0#1 ++ 0b0000101111111#13) = .ok (.ldsba 30 31 31 11) ∧
    decodeWord (0b11#2 ++ 0b01110#5 ++ 0b011010#6 ++ 0b10000#5 ++ 0b0#1 ++ 0b1010010100111#13) = .ok (.ldsha 14 16 7 165) ∧
    decodeWord (0b11#2 ++ 0b00100#5 ++ 0b010001#6 ++ 0b01001#5 ++ 0b0#1 ++ 0b1111111110010#13) = .ok (.lduba 4 9 18 255) ∧
    decodeWord (0b11#2 ++ 0b01000#5 ++ 0b010010#6 ++ 0b11000#5 ++ 0b0#1 ++ 0b0000101100000#13) = .ok (.lduha 8 24 0 11) ∧
    decodeWord (0b11#2 ++ 0b00010#5 ++ 0b010000#6 ++ 0b00001#5 ++ 0b0#1 ++ 0b1010010100011#13) = .ok (.lda 2 1 3 165) ∧
    decodeWord (0b11#2 ++ 0b11110#5 ++ 0b010011#6 ++ 0b11111#5 ++ 0b0#1 ++ 0b1111111111111#13) = .ok (.ldda 30 31 31 255) := by decide

theorem test_decode_unit_loads :
    decodeWord (0b11#2 ++ 0b01110#5 ++ 0b100000#6 ++ 0b10000#5 ++ 0b0#1 ++ 0b0000000000111#13) = .ok (.ldf 14 16 (.reg 7)) ∧
    decodeWord (0b11#2 ++ 0b00100#5 ++ 0b100011#6 ++ 0b01001#5 ++ 0b1#1 ++ 0b1000000000000#13) = .ok (.lddf 4 9 (.imm (-4096))) ∧
    decodeWord (0b11#2 ++ 0b00000#5 ++ 0b100001#6 ++ 0b11000#5 ++ 0b0#1 ++ 0b0000000000000#13) = .ok (.ldfsr 24 (.reg 0)) ∧
    decodeWord (0b11#2 ++ 0b00010#5 ++ 0b110000#6 ++ 0b00001#5 ++ 0b1#1 ++ 0b0000100100011#13) = .ok (.ldc 2 1 (.imm 291)) ∧
    decodeWord (0b11#2 ++ 0b11110#5 ++ 0b110011#6 ++ 0b11111#5 ++ 0b0#1 ++ 0b0000000011111#13) = .ok (.lddc 30 31 (.reg 31)) ∧
    decodeWord (0b11#2 ++ 0b00000#5 ++ 0b110001#6 ++ 0b10000#5 ++ 0b1#1 ++ 0b1000000000000#13) = .ok (.ldcsr 16 (.imm (-4096))) := by decide

theorem test_decode_integer_stores :
    decodeWord (0b11#2 ++ 0b00100#5 ++ 0b000101#6 ++ 0b01001#5 ++ 0b0#1 ++ 0b0000000010010#13) = .ok (.stb 4 9 (.reg 18)) ∧
    decodeWord (0b11#2 ++ 0b01000#5 ++ 0b000110#6 ++ 0b11000#5 ++ 0b1#1 ++ 0b0000100100011#13) = .ok (.sth 8 24 (.imm 291)) ∧
    decodeWord (0b11#2 ++ 0b00010#5 ++ 0b000100#6 ++ 0b00001#5 ++ 0b0#1 ++ 0b0000000000011#13) = .ok (.st 2 1 (.reg 3)) ∧
    decodeWord (0b11#2 ++ 0b11110#5 ++ 0b000111#6 ++ 0b11111#5 ++ 0b1#1 ++ 0b1000000000000#13) = .ok (.std 30 31 (.imm (-4096))) ∧
    decodeWord (0b11#2 ++ 0b01110#5 ++ 0b010101#6 ++ 0b10000#5 ++ 0b0#1 ++ 0b1010010100111#13) = .ok (.stba 14 16 7 165) ∧
    decodeWord (0b11#2 ++ 0b00100#5 ++ 0b010110#6 ++ 0b01001#5 ++ 0b0#1 ++ 0b1111111110010#13) = .ok (.stha 4 9 18 255) ∧
    decodeWord (0b11#2 ++ 0b01000#5 ++ 0b010100#6 ++ 0b11000#5 ++ 0b0#1 ++ 0b0000101100000#13) = .ok (.sta 8 24 0 11) ∧
    decodeWord (0b11#2 ++ 0b00010#5 ++ 0b010111#6 ++ 0b00001#5 ++ 0b0#1 ++ 0b1010010100011#13) = .ok (.stda 2 1 3 165) := by decide

theorem test_decode_unit_stores :
    decodeWord (0b11#2 ++ 0b11110#5 ++ 0b100100#6 ++ 0b11111#5 ++ 0b0#1 ++ 0b0000000011111#13) = .ok (.stf 30 31 (.reg 31)) ∧
    decodeWord (0b11#2 ++ 0b01110#5 ++ 0b100111#6 ++ 0b10000#5 ++ 0b1#1 ++ 0b0000100100011#13) = .ok (.stdf 14 16 (.imm 291)) ∧
    decodeWord (0b11#2 ++ 0b00000#5 ++ 0b100101#6 ++ 0b01001#5 ++ 0b0#1 ++ 0b0000000010010#13) = .ok (.stfsr 9 (.reg 18)) ∧
    decodeWord (0b11#2 ++ 0b00000#5 ++ 0b100110#6 ++ 0b11000#5 ++ 0b1#1 ++ 0b1000000000000#13) = .ok (.stdfq 24 (.imm (-4096))) ∧
    decodeWord (0b11#2 ++ 0b00010#5 ++ 0b110100#6 ++ 0b00001#5 ++ 0b0#1 ++ 0b0000000000011#13) = .ok (.stc 2 1 (.reg 3)) ∧
    decodeWord (0b11#2 ++ 0b11110#5 ++ 0b110111#6 ++ 0b11111#5 ++ 0b1#1 ++ 0b0000100100011#13) = .ok (.stdc 30 31 (.imm 291)) ∧
    decodeWord (0b11#2 ++ 0b00000#5 ++ 0b110101#6 ++ 0b10000#5 ++ 0b0#1 ++ 0b0000000000111#13) = .ok (.stcsr 16 (.reg 7)) ∧
    decodeWord (0b11#2 ++ 0b00000#5 ++ 0b110110#6 ++ 0b01001#5 ++ 0b1#1 ++ 0b1000000000000#13) = .ok (.stdcq 9 (.imm (-4096))) := by decide

theorem test_decode_atomics :
    decodeWord (0b11#2 ++ 0b01000#5 ++ 0b001101#6 ++ 0b11000#5 ++ 0b0#1 ++ 0b0000000000000#13) = .ok (.ldstub 8 24 (.reg 0)) ∧
    decodeWord (0b11#2 ++ 0b00010#5 ++ 0b011101#6 ++ 0b00001#5 ++ 0b0#1 ++ 0b1111111100011#13) = .ok (.ldstuba 2 1 3 255) ∧
    decodeWord (0b11#2 ++ 0b11110#5 ++ 0b001111#6 ++ 0b11111#5 ++ 0b0#1 ++ 0b0000000011111#13) = .ok (.swap 30 31 (.reg 31)) ∧
    decodeWord (0b11#2 ++ 0b01110#5 ++ 0b011111#6 ++ 0b10000#5 ++ 0b0#1 ++ 0b1010010100111#13) = .ok (.swapa 14 16 7 165) := by decide

theorem test_decode_additions :
    decodeWord (0b10#2 ++ 0b00100#5 ++ 0b000000#6 ++ 0b01001#5 ++ 0b0#1 ++ 0b0000000010010#13) = .ok (.add 4 9 (.reg 18)) ∧
    decodeWord (0b10#2 ++ 0b01000#5 ++ 0b010000#6 ++ 0b11000#5 ++ 0b1#1 ++ 0b0000100100011#13) = .ok (.addcc 8 24 (.imm 291)) ∧
    decodeWord (0b10#2 ++ 0b00010#5 ++ 0b001000#6 ++ 0b00001#5 ++ 0b0#1 ++ 0b0000000000011#13) = .ok (.addx 2 1 (.reg 3)) ∧
    decodeWord (0b10#2 ++ 0b11110#5 ++ 0b011000#6 ++ 0b11111#5 ++ 0b1#1 ++ 0b1000000000000#13) = .ok (.addxcc 30 31 (.imm (-4096))) ∧
    decodeWord (0b10#2 ++ 0b01110#5 ++ 0b100000#6 ++ 0b10000#5 ++ 0b0#1 ++ 0b0000000000111#13) = .ok (.taddcc 14 16 (.reg 7)) ∧
    decodeWord (0b10#2 ++ 0b00100#5 ++ 0b100010#6 ++ 0b01001#5 ++ 0b1#1 ++ 0b0000100100011#13) = .ok (.taddcctv 4 9 (.imm 291)) ∧
    decodeWord (0b10#2 ++ 0b01000#5 ++ 0b100001#6 ++ 0b11000#5 ++ 0b0#1 ++ 0b0000000000000#13) = .ok (.tsubcc 8 24 (.reg 0)) ∧
    decodeWord (0b10#2 ++ 0b00010#5 ++ 0b100011#6 ++ 0b00001#5 ++ 0b1#1 ++ 0b1000000000000#13) = .ok (.tsubcctv 2 1 (.imm (-4096))) := by decide

theorem test_decode_subtractions :
    decodeWord (0b10#2 ++ 0b11110#5 ++ 0b000100#6 ++ 0b11111#5 ++ 0b0#1 ++ 0b0000000011111#13) = .ok (.sub 30 31 (.reg 31)) ∧
    decodeWord (0b10#2 ++ 0b01110#5 ++ 0b010100#6 ++ 0b10000#5 ++ 0b1#1 ++ 0b0000100100011#13) = .ok (.subcc 14 16 (.imm 291)) ∧
    decodeWord (0b10#2 ++ 0b00100#5 ++ 0b001100#6 ++ 0b01001#5 ++ 0b0#1 ++ 0b0000000010010#13) = .ok (.subx 4 9 (.reg 18)) ∧
    decodeWord (0b10#2 ++ 0b01000#5 ++ 0b011100#6 ++ 0b11000#5 ++ 0b1#1 ++ 0b1000000000000#13) = .ok (.subxcc 8 24 (.imm (-4096))) ∧
    decodeWord (0b10#2 ++ 0b00010#5 ++ 0b100100#6 ++ 0b00001#5 ++ 0b0#1 ++ 0b0000000000011#13) = .ok (.mulscc 2 1 (.reg 3)) := by decide

theorem test_decode_logic :
    decodeWord (0b10#2 ++ 0b11110#5 ++ 0b000001#6 ++ 0b11111#5 ++ 0b1#1 ++ 0b0000100100011#13) = .ok (.and 30 31 (.imm 291)) ∧
    decodeWord (0b10#2 ++ 0b01110#5 ++ 0b010001#6 ++ 0b10000#5 ++ 0b0#1 ++ 0b0000000000111#13) = .ok (.andcc 14 16 (.reg 7)) ∧
    decodeWord (0b10#2 ++ 0b00100#5 ++ 0b000101#6 ++ 0b01001#5 ++ 0b1#1 ++ 0b1000000000000#13) = .ok (.andn 4 9 (.imm (-4096))) ∧
    decodeWord (0b10#2 ++ 0b01000#5 ++ 0b010101#6 ++ 0b11000#5 ++ 0b0#1 ++ 0b0000000000000#13) = .ok (.andncc 8 24 (.reg 0)) ∧
    decodeWord (0b10#2 ++ 0b00010#5 ++ 0b000010#6 ++ 0b00001#5 ++ 0b1#1 ++ 0b0000100100011#13) = .ok (.or 2 1 (.imm 291)) ∧
    decodeWord (0b10#2 ++ 0b11110#5 ++ 0b010010#6 ++ 0b11111#5 ++ 0b0#1 ++ 0b0000000011111#13) = .ok (.orcc 30 31 (.reg 31)) ∧
    decodeWord (0b10#2 ++ 0b01110#5 ++ 0b000110#6 ++ 0b10000#5 ++ 0b1#1 ++ 0b1000000000000#13) = .ok (.orn 14 16 (.imm (-4096))) ∧
    decodeWord (0b10#2 ++ 0b00100#5 ++ 0b010110#6 ++ 0b01001#5 ++ 0b0#1 ++ 0b0000000010010#13) = .ok (.orncc 4 9 (.reg 18)) ∧
    decodeWord (0b10#2 ++ 0b01000#5 ++ 0b000011#6 ++ 0b11000#5 ++ 0b1#1 ++ 0b0000100100011#13) = .ok (.xor 8 24 (.imm 291)) ∧
    decodeWord (0b10#2 ++ 0b00010#5 ++ 0b010011#6 ++ 0b00001#5 ++ 0b0#1 ++ 0b0000000000011#13) = .ok (.xorcc 2 1 (.reg 3)) ∧
    decodeWord (0b10#2 ++ 0b11110#5 ++ 0b000111#6 ++ 0b11111#5 ++ 0b1#1 ++ 0b1000000000000#13) = .ok (.xnor 30 31 (.imm (-4096))) ∧
    decodeWord (0b10#2 ++ 0b01110#5 ++ 0b010111#6 ++ 0b10000#5 ++ 0b0#1 ++ 0b0000000000111#13) = .ok (.xnorcc 14 16 (.reg 7)) := by decide

theorem test_decode_shifts_and_windows :
    decodeWord (0b10#2 ++ 0b00100#5 ++ 0b100101#6 ++ 0b01001#5 ++ 0b1#1 ++ 0b0000000011101#13) = .ok (.sll 4 9 (.imm 29)) ∧
    decodeWord (0b10#2 ++ 0b01000#5 ++ 0b100110#6 ++ 0b11000#5 ++ 0b0#1 ++ 0b0000000000000#13) = .ok (.srl 8 24 (.reg 0)) ∧
    decodeWord (0b10#2 ++ 0b00010#5 ++ 0b100111#6 ++ 0b00001#5 ++ 0b1#1 ++ 0b0000000011101#13) = .ok (.sra 2 1 (.imm 29)) ∧
    decodeWord (0b00#2 ++ 0b11110#5 ++ 0b100#3 ++ 0b1010101010101010101011#22) = .ok (.sethi 30 0x2AAAAB) ∧
    decodeWord (0b10#2 ++ 0b01110#5 ++ 0b111100#6 ++ 0b10000#5 ++ 0b1#1 ++ 0b0000100100011#13) = .ok (.save 14 16 (.imm 291)) ∧
    decodeWord (0b10#2 ++ 0b00100#5 ++ 0b111101#6 ++ 0b01001#5 ++ 0b0#1 ++ 0b0000000010010#13) = .ok (.restore 4 9 (.reg 18)) := by decide

theorem test_decode_integer_branches :
    decodeWord (0b00#2 ++ 0b1#1 ++ 0b0000#4 ++ 0b010#3 ++ 0b1111111111111111111101#22) = .ok (.bn true (-3)) ∧
    decodeWord (0b00#2 ++ 0b0#1 ++ 0b0001#4 ++ 0b010#3 ++ 0b1000000000000000000000#22) = .ok (.be false (-2097152)) ∧
    decodeWord (0b00#2 ++ 0b1#1 ++ 0b0010#4 ++ 0b010#3 ++ 0b0111111111111111111111#22) = .ok (.ble true 2097151) ∧
    decodeWord (0b00#2 ++ 0b0#1 ++ 0b0011#4 ++ 0b010#3 ++ 0b0000000000000000000101#22) = .ok (.bl false 5) ∧
    decodeWord (0b00#2 ++ 0b1#1 ++ 0b0100#4 ++ 0b010#3 ++ 0b1111111111111111111101#22) = .ok (.bleu true (-3)) ∧
    decodeWord (0b00#2 ++ 0b0#1 ++ 0b0101#4 ++ 0b010#3 ++ 0b1000000000000000000000#22) = .ok (.bcs false (-2097152)) ∧
    decodeWord (0b00#2 ++ 0b1#1 ++ 0b0110#4 ++ 0b010#3 ++ 0b0111111111111111111111#22) = .ok (.bneg true 2097151) ∧
    decodeWord (0b00#2 ++ 0b0#1 ++ 0b0111#4 ++ 0b010#3 ++ 0b0000000000000000000101#22) = .ok (.bvs false 5) ∧
    decodeWord (0b00#2 ++ 0b1#1 ++ 0b1000#4 ++ 0b010#3 ++ 0b1111111111111111111101#22) = .ok (.ba true (-3)) ∧
    decodeWord (0b00#2 ++ 0b0#1 ++ 0b1001#4 ++ 0b010#3 ++ 0b1000000000000000000000#22) = .ok (.bne false (-2097152)) ∧
    decodeWord (0b00#2 ++ 0b1#1 ++ 0b1010#4 ++ 0b010#3 ++ 0b0111111111111111111111#22) = .ok (.bg true 2097151) ∧
    decodeWord (0b00#2 ++ 0b0#1 ++ 0b1011#4 ++ 0b010#3 ++ 0b0000000000000000000101#22) = .ok (.bge false 5) ∧
    decodeWord (0b00#2 ++ 0b1#1 ++ 0b1100#4 ++ 0b010#3 ++ 0b1111111111111111111101#22) = .ok (.bgu true (-3)) ∧
    decodeWord (0b00#2 ++ 0b0#1 ++ 0b1101#4 ++ 0b010#3 ++ 0b1000000000000000000000#22) = .ok (.bcc false (-2097152)) ∧
    decodeWord (0b00#2 ++ 0b1#1 ++ 0b1110#4 ++ 0b010#3 ++ 0b0111111111111111111111#22) = .ok (.bpos true 2097151) ∧
    decodeWord (0b00#2 ++ 0b0#1 ++ 0b1111#4 ++ 0b010#3 ++ 0b0000000000000000000101#22) = .ok (.bvc false 5) := by decide

theorem test_decode_floating_branches :
    decodeWord (0b00#2 ++ 0b1#1 ++ 0b0000#4 ++ 0b110#3 ++ 0b1111111111111111111101#22) = .ok (.fbn true (-3)) ∧
    decodeWord (0b00#2 ++ 0b0#1 ++ 0b0001#4 ++ 0b110#3 ++ 0b1000000000000000000000#22) = .ok (.fbne false (-2097152)) ∧
    decodeWord (0b00#2 ++ 0b1#1 ++ 0b0010#4 ++ 0b110#3 ++ 0b0111111111111111111111#22) = .ok (.fblg true 2097151) ∧
    decodeWord (0b00#2 ++ 0b0#1 ++ 0b0011#4 ++ 0b110#3 ++ 0b0000000000000000000101#22) = .ok (.fbul false 5) ∧
    decodeWord (0b00#2 ++ 0b1#1 ++ 0b0100#4 ++ 0b110#3 ++ 0b1111111111111111111101#22) = .ok (.fbl true (-3)) ∧
    decodeWord (0b00#2 ++ 0b0#1 ++ 0b0101#4 ++ 0b110#3 ++ 0b1000000000000000000000#22) = .ok (.fbug false (-2097152)) ∧
    decodeWord (0b00#2 ++ 0b1#1 ++ 0b0110#4 ++ 0b110#3 ++ 0b0111111111111111111111#22) = .ok (.fbg true 2097151) ∧
    decodeWord (0b00#2 ++ 0b0#1 ++ 0b0111#4 ++ 0b110#3 ++ 0b0000000000000000000101#22) = .ok (.fbu false 5) ∧
    decodeWord (0b00#2 ++ 0b1#1 ++ 0b1000#4 ++ 0b110#3 ++ 0b1111111111111111111101#22) = .ok (.fba true (-3)) ∧
    decodeWord (0b00#2 ++ 0b0#1 ++ 0b1001#4 ++ 0b110#3 ++ 0b1000000000000000000000#22) = .ok (.fbe false (-2097152)) ∧
    decodeWord (0b00#2 ++ 0b1#1 ++ 0b1010#4 ++ 0b110#3 ++ 0b0111111111111111111111#22) = .ok (.fbue true 2097151) ∧
    decodeWord (0b00#2 ++ 0b0#1 ++ 0b1011#4 ++ 0b110#3 ++ 0b0000000000000000000101#22) = .ok (.fbge false 5) ∧
    decodeWord (0b00#2 ++ 0b1#1 ++ 0b1100#4 ++ 0b110#3 ++ 0b1111111111111111111101#22) = .ok (.fbuge true (-3)) ∧
    decodeWord (0b00#2 ++ 0b0#1 ++ 0b1101#4 ++ 0b110#3 ++ 0b1000000000000000000000#22) = .ok (.fble false (-2097152)) ∧
    decodeWord (0b00#2 ++ 0b1#1 ++ 0b1110#4 ++ 0b110#3 ++ 0b0111111111111111111111#22) = .ok (.fbule true 2097151) ∧
    decodeWord (0b00#2 ++ 0b0#1 ++ 0b1111#4 ++ 0b110#3 ++ 0b0000000000000000000101#22) = .ok (.fbo false 5) := by decide

theorem test_decode_coprocessor_branches :
    decodeWord (0b00#2 ++ 0b1#1 ++ 0b0000#4 ++ 0b111#3 ++ 0b1111111111111111111101#22) = .ok (.cbn true (-3)) ∧
    decodeWord (0b00#2 ++ 0b0#1 ++ 0b0001#4 ++ 0b111#3 ++ 0b1000000000000000000000#22) = .ok (.cb123 false (-2097152)) ∧
    decodeWord (0b00#2 ++ 0b1#1 ++ 0b0010#4 ++ 0b111#3 ++ 0b0111111111111111111111#22) = .ok (.cb12 true 2097151) ∧
    decodeWord (0b00#2 ++ 0b0#1 ++ 0b0011#4 ++ 0b111#3 ++ 0b0000000000000000000101#22) = .ok (.cb13 false 5) ∧
    decodeWord (0b00#2 ++ 0b1#1 ++ 0b0100#4 ++ 0b111#3 ++ 0b1111111111111111111101#22) = .ok (.cb1 true (-3)) ∧
    decodeWord (0b00#2 ++ 0b0#1 ++ 0b0101#4 ++ 0b111#3 ++ 0b1000000000000000000000#22) = .ok (.cb23 false (-2097152)) ∧
    decodeWord (0b00#2 ++ 0b1#1 ++ 0b0110#4 ++ 0b111#3 ++ 0b0111111111111111111111#22) = .ok (.cb2 true 2097151) ∧
    decodeWord (0b00#2 ++ 0b0#1 ++ 0b0111#4 ++ 0b111#3 ++ 0b0000000000000000000101#22) = .ok (.cb3 false 5) ∧
    decodeWord (0b00#2 ++ 0b1#1 ++ 0b1000#4 ++ 0b111#3 ++ 0b1111111111111111111101#22) = .ok (.cba true (-3)) ∧
    decodeWord (0b00#2 ++ 0b0#1 ++ 0b1001#4 ++ 0b111#3 ++ 0b1000000000000000000000#22) = .ok (.cb0 false (-2097152)) ∧
    decodeWord (0b00#2 ++ 0b1#1 ++ 0b1010#4 ++ 0b111#3 ++ 0b0111111111111111111111#22) = .ok (.cb03 true 2097151) ∧
    decodeWord (0b00#2 ++ 0b0#1 ++ 0b1011#4 ++ 0b111#3 ++ 0b0000000000000000000101#22) = .ok (.cb02 false 5) ∧
    decodeWord (0b00#2 ++ 0b1#1 ++ 0b1100#4 ++ 0b111#3 ++ 0b1111111111111111111101#22) = .ok (.cb023 true (-3)) ∧
    decodeWord (0b00#2 ++ 0b0#1 ++ 0b1101#4 ++ 0b111#3 ++ 0b1000000000000000000000#22) = .ok (.cb01 false (-2097152)) ∧
    decodeWord (0b00#2 ++ 0b1#1 ++ 0b1110#4 ++ 0b111#3 ++ 0b0111111111111111111111#22) = .ok (.cb013 true 2097151) ∧
    decodeWord (0b00#2 ++ 0b0#1 ++ 0b1111#4 ++ 0b111#3 ++ 0b0000000000000000000101#22) = .ok (.cb012 false 5) := by decide

theorem test_decode_call_jump_return :
    decodeWord (0b01#2 ++ 0b111111111111111111111111111110#30) = .ok (.call (-2)) ∧
    decodeWord (0b10#2 ++ 0b00100#5 ++ 0b111000#6 ++ 0b01001#5 ++ 0b0#1 ++ 0b0000000010010#13) = .ok (.jmpl 4 9 (.reg 18)) ∧
    decodeWord (0b10#2 ++ 0b00000#5 ++ 0b111001#6 ++ 0b11000#5 ++ 0b1#1 ++ 0b0000100100011#13) = .ok (.rett 24 (.imm 291)) := by decide

theorem test_decode_software_traps :
    decodeWord (0b10#2 ++ 0b00000#5 ++ 0b111010#6 ++ 0b00001#5 ++ 0b0#1 ++ 0b0000000000011#13) = .ok (.tn 1 (.reg 3)) ∧
    decodeWord (0b10#2 ++ 0b00001#5 ++ 0b111010#6 ++ 0b11111#5 ++ 0b1#1 ++ 0b1000000000000#13) = .ok (.te 31 (.imm (-4096))) ∧
    decodeWord (0b10#2 ++ 0b00010#5 ++ 0b111010#6 ++ 0b10000#5 ++ 0b0#1 ++ 0b0000000000111#13) = .ok (.tle 16 (.reg 7)) ∧
    decodeWord (0b10#2 ++ 0b00011#5 ++ 0b111010#6 ++ 0b01001#5 ++ 0b1#1 ++ 0b0000100100011#13) = .ok (.tl 9 (.imm 291)) ∧
    decodeWord (0b10#2 ++ 0b00100#5 ++ 0b111010#6 ++ 0b11000#5 ++ 0b0#1 ++ 0b0000000000000#13) = .ok (.tleu 24 (.reg 0)) ∧
    decodeWord (0b10#2 ++ 0b00101#5 ++ 0b111010#6 ++ 0b00001#5 ++ 0b1#1 ++ 0b1000000000000#13) = .ok (.tcs 1 (.imm (-4096))) ∧
    decodeWord (0b10#2 ++ 0b00110#5 ++ 0b111010#6 ++ 0b11111#5 ++ 0b0#1 ++ 0b0000000011111#13) = .ok (.tneg 31 (.reg 31)) ∧
    decodeWord (0b10#2 ++ 0b00111#5 ++ 0b111010#6 ++ 0b10000#5 ++ 0b1#1 ++ 0b0000100100011#13) = .ok (.tvs 16 (.imm 291)) ∧
    decodeWord (0b10#2 ++ 0b01000#5 ++ 0b111010#6 ++ 0b01001#5 ++ 0b0#1 ++ 0b0000000010010#13) = .ok (.ta 9 (.reg 18)) ∧
    decodeWord (0b10#2 ++ 0b01001#5 ++ 0b111010#6 ++ 0b11000#5 ++ 0b1#1 ++ 0b1000000000000#13) = .ok (.tne 24 (.imm (-4096))) ∧
    decodeWord (0b10#2 ++ 0b01010#5 ++ 0b111010#6 ++ 0b00001#5 ++ 0b0#1 ++ 0b0000000000011#13) = .ok (.tg 1 (.reg 3)) ∧
    decodeWord (0b10#2 ++ 0b01011#5 ++ 0b111010#6 ++ 0b11111#5 ++ 0b1#1 ++ 0b0000100100011#13) = .ok (.tge 31 (.imm 291)) ∧
    decodeWord (0b10#2 ++ 0b01100#5 ++ 0b111010#6 ++ 0b10000#5 ++ 0b0#1 ++ 0b0000000000111#13) = .ok (.tgu 16 (.reg 7)) ∧
    decodeWord (0b10#2 ++ 0b01101#5 ++ 0b111010#6 ++ 0b01001#5 ++ 0b1#1 ++ 0b1000000000000#13) = .ok (.tcc 9 (.imm (-4096))) ∧
    decodeWord (0b10#2 ++ 0b01110#5 ++ 0b111010#6 ++ 0b11000#5 ++ 0b0#1 ++ 0b0000000000000#13) = .ok (.tpos 24 (.reg 0)) ∧
    decodeWord (0b10#2 ++ 0b01111#5 ++ 0b111010#6 ++ 0b00001#5 ++ 0b1#1 ++ 0b0000100100011#13) = .ok (.tvc 1 (.imm 291)) := by decide

theorem test_decode_state_registers :
    decodeWord (0b10#2 ++ 0b11110#5 ++ 0b101000#6 ++ 0b00000#5 ++ 0b0#1 ++ 0b0000000000000#13) = .ok (.rdy 30) ∧
    decodeWord (0b10#2 ++ 0b01110#5 ++ 0b101001#6 ++ 0b00000#5 ++ 0b0#1 ++ 0b0000000000000#13) = .ok (.rdpsr 14) ∧
    decodeWord (0b10#2 ++ 0b00100#5 ++ 0b101010#6 ++ 0b00000#5 ++ 0b0#1 ++ 0b0000000000000#13) = .ok (.rdwim 4) ∧
    decodeWord (0b10#2 ++ 0b01000#5 ++ 0b101011#6 ++ 0b00000#5 ++ 0b0#1 ++ 0b0000000000000#13) = .ok (.rdtbr 8) ∧
    decodeWord (0b10#2 ++ 0b00000#5 ++ 0b110000#6 ++ 0b00001#5 ++ 0b0#1 ++ 0b0000000000011#13) = .ok (.wry 1 (.reg 3)) ∧
    decodeWord (0b10#2 ++ 0b00000#5 ++ 0b110001#6 ++ 0b11111#5 ++ 0b1#1 ++ 0b1000000000000#13) = .ok (.wrpsr 31 (.imm (-4096))) ∧
    decodeWord (0b10#2 ++ 0b00000#5 ++ 0b110010#6 ++ 0b10000#5 ++ 0b0#1 ++ 0b0000000000111#13) = .ok (.wrwim 16 (.reg 7)) ∧
    decodeWord (0b10#2 ++ 0b00000#5 ++ 0b110011#6 ++ 0b01001#5 ++ 0b1#1 ++ 0b0000100100011#13) = .ok (.wrtbr 9 (.imm 291)) ∧
    decodeWord (0b00#2 ++ 0b00000#5 ++ 0b000#3 ++ 0b1010101010101010101011#22) = .ok (.unimp 0x2AAAAB) ∧
    decodeWord (0b10#2 ++ 0b00000#5 ++ 0b111011#6 ++ 0b00001#5 ++ 0b1#1 ++ 0b1000000000000#13) = .ok (.iflush 1 (.imm (-4096))) := by decide

theorem test_decode_conversions :
    decodeWord (0b10#2 ++ 0b11110#5 ++ 0b110100#6 ++ 0b11111#5 ++ 0b011000100#9 ++ 0b11111#5) = .ok (.fitos 30 31 31) ∧
    decodeWord (0b10#2 ++ 0b01110#5 ++ 0b110100#6 ++ 0b10000#5 ++ 0b011001000#9 ++ 0b00111#5) = .ok (.fitod 14 16 7) ∧
    decodeWord (0b10#2 ++ 0b00100#5 ++ 0b110100#6 ++ 0b01001#5 ++ 0b011001100#9 ++ 0b10010#5) = .ok (.fitox 4 9 18) ∧
    decodeWord (0b10#2 ++ 0b01000#5 ++ 0b110100#6 ++ 0b11000#5 ++ 0b011010001#9 ++ 0b00000#5) = .ok (.fstoi 8 24 0) ∧
    decodeWord (0b10#2 ++ 0b00010#5 ++ 0b110100#6 ++ 0b00001#5 ++ 0b011010010#9 ++ 0b00011#5) = .ok (.fdtoi 2 1 3) ∧
    decodeWord (0b10#2 ++ 0b11110#5 ++ 0b110100#6 ++ 0b11111#5 ++ 0b011010011#9 ++ 0b11111#5) = .ok (.fxtoi 30 31 31) ∧
    decodeWord (0b10#2 ++ 0b01110#5 ++ 0b110100#6 ++ 0b10000#5 ++ 0b011001001#9 ++ 0b00111#5) = .ok (.fstod 14 16 7) ∧
    decodeWord (0b10#2 ++ 0b00100#5 ++ 0b110100#6 ++ 0b01001#5 ++ 0b011001101#9 ++ 0b10010#5) = .ok (.fstox 4 9 18) ∧
    decodeWord (0b10#2 ++ 0b01000#5 ++ 0b110100#6 ++ 0b11000#5 ++ 0b011000110#9 ++ 0b00000#5) = .ok (.fdtos 8 24 0) ∧
    decodeWord (0b10#2 ++ 0b00010#5 ++ 0b110100#6 ++ 0b00001#5 ++ 0b011001110#9 ++ 0b00011#5) = .ok (.fdtox 2 1 3) ∧
    decodeWord (0b10#2 ++ 0b11110#5 ++ 0b110100#6 ++ 0b11111#5 ++ 0b011000111#9 ++ 0b11111#5) = .ok (.fxtos 30 31 31) ∧
    decodeWord (0b10#2 ++ 0b01110#5 ++ 0b110100#6 ++ 0b10000#5 ++ 0b011001011#9 ++ 0b00111#5) = .ok (.fxtod 14 16 7) := by decide

theorem test_decode_moves_and_roots :
    decodeWord (0b10#2 ++ 0b00100#5 ++ 0b110100#6 ++ 0b01001#5 ++ 0b000000001#9 ++ 0b10010#5) = .ok (.fmovs 4 9 18) ∧
    decodeWord (0b10#2 ++ 0b01000#5 ++ 0b110100#6 ++ 0b11000#5 ++ 0b000000101#9 ++ 0b00000#5) = .ok (.fnegs 8 24 0) ∧
    decodeWord (0b10#2 ++ 0b00010#5 ++ 0b110100#6 ++ 0b00001#5 ++ 0b000001001#9 ++ 0b00011#5) = .ok (.fabss 2 1 3) ∧
    decodeWord (0b10#2 ++ 0b11110#5 ++ 0b110100#6 ++ 0b11111#5 ++ 0b000101001#9 ++ 0b11111#5) = .ok (.fsqrts 30 31 31) ∧
    decodeWord (0b10#2 ++ 0b01110#5 ++ 0b110100#6 ++ 0b10000#5 ++ 0b000101010#9 ++ 0b00111#5) = .ok (.fsqrtd 14 16 7) ∧
    decodeWord (0b10#2 ++ 0b00100#5 ++ 0b110100#6 ++ 0b01001#5 ++ 0b000101011#9 ++ 0b10010#5) = .ok (.fsqrtx 4 9 18) := by decide

theorem test_decode_floating_arithmetic :
    decodeWord (0b10#2 ++ 0b01000#5 ++ 0b110100#6 ++ 0b11000#5 ++ 0b001000001#9 ++ 0b00000#5) = .ok (.fadds 8 24 0) ∧
    decodeWord (0b10#2 ++ 0b00010#5 ++ 0b110100#6 ++ 0b00001#5 ++ 0b001000010#9 ++ 0b00011#5) = .ok (.faddd 2 1 3) ∧
    decodeWord (0b10#2 ++ 0b11110#5 ++ 0b110100#6 ++ 0b11111#5 ++ 0b001000011#9 ++ 0b11111#5) = .ok (.faddx 30 31 31) ∧
    decodeWord (0b10#2 ++ 0b01110#5 ++ 0b110100#6 ++ 0b10000#5 ++ 0b001000101#9 ++ 0b00111#5) = .ok (.fsubs 14 16 7) ∧
    decodeWord (0b10#2 ++ 0b00100#5 ++ 0b110100#6 ++ 0b01001#5 ++ 0b001000110#9 ++ 0b10010#5) = .ok (.fsubd 4 9 18) ∧
    decodeWord (0b10#2 ++ 0b01000#5 ++ 0b110100#6 ++ 0b11000#5 ++ 0b001000111#9 ++ 0b00000#5) = .ok (.fsubx 8 24 0) ∧
    decodeWord (0b10#2 ++ 0b00010#5 ++ 0b110100#6 ++ 0b00001#5 ++ 0b001001001#9 ++ 0b00011#5) = .ok (.fmuls 2 1 3) ∧
    decodeWord (0b10#2 ++ 0b11110#5 ++ 0b110100#6 ++ 0b11111#5 ++ 0b001001010#9 ++ 0b11111#5) = .ok (.fmuld 30 31 31) ∧
    decodeWord (0b10#2 ++ 0b01110#5 ++ 0b110100#6 ++ 0b10000#5 ++ 0b001001011#9 ++ 0b00111#5) = .ok (.fmulx 14 16 7) ∧
    decodeWord (0b10#2 ++ 0b00100#5 ++ 0b110100#6 ++ 0b01001#5 ++ 0b001001101#9 ++ 0b10010#5) = .ok (.fdivs 4 9 18) ∧
    decodeWord (0b10#2 ++ 0b01000#5 ++ 0b110100#6 ++ 0b11000#5 ++ 0b001001110#9 ++ 0b00000#5) = .ok (.fdivd 8 24 0) ∧
    decodeWord (0b10#2 ++ 0b00010#5 ++ 0b110100#6 ++ 0b00001#5 ++ 0b001001111#9 ++ 0b00011#5) = .ok (.fdivx 2 1 3) := by decide

theorem test_decode_floating_compares :
    decodeWord (0b10#2 ++ 0b11110#5 ++ 0b110101#6 ++ 0b11111#5 ++ 0b001010001#9 ++ 0b11111#5) = .ok (.fcmps 30 31 31) ∧
    decodeWord (0b10#2 ++ 0b01110#5 ++ 0b110101#6 ++ 0b10000#5 ++ 0b001010010#9 ++ 0b00111#5) = .ok (.fcmpd 14 16 7) ∧
    decodeWord (0b10#2 ++ 0b00100#5 ++ 0b110101#6 ++ 0b01001#5 ++ 0b001010011#9 ++ 0b10010#5) = .ok (.fcmpx 4 9 18) ∧
    decodeWord (0b10#2 ++ 0b01000#5 ++ 0b110101#6 ++ 0b11000#5 ++ 0b001010101#9 ++ 0b00000#5) = .ok (.fcmpes 8 24 0) ∧
    decodeWord (0b10#2 ++ 0b00010#5 ++ 0b110101#6 ++ 0b00001#5 ++ 0b001010110#9 ++ 0b00011#5) = .ok (.fcmped 2 1 3) ∧
    decodeWord (0b10#2 ++ 0b11110#5 ++ 0b110101#6 ++ 0b11111#5 ++ 0b001010111#9 ++ 0b11111#5) = .ok (.fcmpex 30 31 31) := by decide

theorem test_decode_coprocessor_operations :
    decodeWord (0b10#2 ++ 0b01110#5 ++ 0b110110#6 ++ 0b10000#5 ++ 0b101010101#9 ++ 0b00111#5) = .ok (.cpop1 14 16 0x155 7) ∧
    decodeWord (0b10#2 ++ 0b00100#5 ++ 0b110111#6 ++ 0b01001#5 ++ 0b101010101#9 ++ 0b10010#5) = .ok (.cpop2 4 9 0x155 18) := by decide

/-- Words that are no instruction (R151 to R154, R158), and too few bytes. -/
theorem test_decode_refusals :
    decodeWord 0x00400000#32 = .error .unassignedOp2 ∧ decodeWord 0x80480000#32 = .error .unassignedOp3 ∧
    decodeWord 0xC1C80000#32 = .error .unassignedOp3 ∧ decodeWord 0xC4806002#32 = .error .alternateImmediate ∧
    decodeWord 0x81A00000#32 = .error .unassignedFpop ∧ decode [0x01, 0x00, 0x00] = .error .truncated := by decide

/-- Ignored bits: the low bit of rd of LDD (R212), bits 12 to 5 of a register form, rd of UNIMP and WRY. -/
theorem test_decode_ignored :
    decodeWord 0xC6186000#32 = .ok (.ldd 2 1 (.imm 0)) ∧ decodeWord 0x86005FE2#32 = .ok (.add 3 1 (.reg 2)) ∧
    decodeWord 0x3E00000C#32 = .ok (.unimp 12) ∧ decodeWord 0xBF804000#32 = .ok (.wry 1 (.reg 0)) := by decide

/-- The table's numbering: one word, bit 0 its least significant bit; any other length is no row's. -/
theorem test_decodeTableWord :
    decodeTableWord 32 0x86004002 = some (.add 3 1 (.reg 2)) ∧ decodeTableWord 32 0x00400000 = none := by decide


/-! ### One step on a small state -/

/-- The start state of the vectors of 95: supervisor, traps enabled, FPU enabled, window 3, TBA 4, WIM 1, PC 0x1000. -/
def start : State :=
  { State.reset with psr := { State.reset.psr with et := true, ef := true, cwp := 3 }, wim := 1, tba := 4, pc := 0x1000,
                     npc := 0x1004 }

def user (s : State) : State := { s with psr := { s.psr with s := false } }
def withReg (n v : Nat) (s : State) : State := s.setRegIn s.psr.cwp (BitVec.ofNat 5 n) (BitVec.ofNat 32 v)
def withWord (a v : Nat) (s : State) : State := { s with mem := Memory.setMasked s.mem a 0b1111#4 (BitVec.ofNat 32 v) }
def withF (n v : Nat) (s : State) : State := s.setFreg (BitVec.ofNat 5 n) (BitVec.ofNat 32 v)
def withIcc (v : Nat) (s : State) : State := { s with psr := { s.psr with icc := iccOfBits (BitVec.ofNat 4 v) } }
def withFsr (v : Nat) (s : State) : State := s.setFsr (fsrLoad s.fpu.fsr (BitVec.ofNat 32 v))
def withFtt (v : Nat) (q : Bool) (s : State) : State := s.setFsr { s.fpu.fsr with ftt := BitVec.ofNat 3 v, qne := q }
def reg (s : State) (n : Nat) : Nat := (s.r (BitVec.ofNat 5 n)).toNat
def word (s : State) (a : Nat) : Nat := (Memory.word s.mem a).toNat
def fr (s : State) (n : Nat) : Nat := (s.freg (BitVec.ofNat 5 n)).toNat
def icc (s : State) : Nat := (iccBits s.psr.icc).toNat

/-- What holds after one step. -/
def stepped (s : State) (p : State → Bool) : Bool :=
  match step s with
  | .next t => p t
  | _ => false

/-- What holds after the step that runs a word. -/
def runs (s : State) (w : Nat) (p : State → Bool) : Bool := stepped (s.withFetchWord 32 w) p

/-- 95, 2.2: the byte 0x84, sign-extended. -/
theorem test_ldsb_sign : runs (start |> withWord 0x2000 0x8182F384 |> withWord 0x2004 0x05060708 |> withReg 1 0x2000) 0xC4486003 (fun t => reg t 2 == 0xFFFFFF84) = true := by decide

/-- 95, 2.2: the halfword at 0x2006, zero-extended. -/
theorem test_lduh_index : runs (start |> withWord 0x2000 0x8182F384 |> withWord 0x2004 0x05060708 |> withReg 1 0x2000 |> withReg 3 6) 0xC4104003 (fun t => reg t 2 == 0x708) = true := by decide

/-- 95, 2.2: a word at 0x2002 takes mem_address_not_aligned; PC and nPC are in r[17], r[18] of window 2. -/
theorem test_ld_misaligned : runs (start |> withWord 0x2000 0x8182F384 |> withWord 0x2004 0x05060708 |> withReg 1 0x2000) 0xC4006002 (fun t => reg t 2 == 0x0 && t.tt == 7 && t.pc == 0x4070#32 && t.npc == 0x4074#32 && t.psr.cwp == 2#5 && reg t 17 == 0x1000 && reg t 18 == 0x1004) = true := by decide

/-- 95, 2.2: rd = 3 names the pair 2, 3. -/
theorem test_ldd_odd_rd : runs (start |> withWord 0x2000 0x8182F384 |> withWord 0x2004 0x05060708 |> withReg 1 0x2000) 0xC6186000 (fun t => reg t 2 == 0x8182F384 && reg t 3 == 0x5060708) = true := by decide

/-- 95, 2.2: rd = 0 writes r[1] only, and after its use as an address. -/
theorem test_ldd_r0 : runs (start |> withWord 0x2000 0x8182F384 |> withWord 0x2004 0x05060708 |> withReg 1 0x2000) 0xC0186000 (fun t => reg t 0 == 0x0 && reg t 1 == 0x5060708) = true := by decide

/-- 95, 2.2: LDA in user mode takes privileged_instruction. -/
theorem test_lda_user : runs (user (start |> withWord 0x2000 0x8182F384 |> withWord 0x2004 0x05060708 |> withReg 1 0x2000)) 0xC4804160 (fun t => t.tt == 3 && t.psr.s && !t.psr.ps) = true := by decide

/-- 95, 2.2: the least significant byte at 0x2001. -/
theorem test_stb_lane : runs (start |> withWord 0x2000 0x8182F384 |> withWord 0x2004 0x05060708 |> withReg 1 0x2000 |> withReg 2 0x123456AB) 0xC4286001 (fun t => word t 0x2000 == 0x81ABF384) = true := by decide

/-- 95, 2.2: r[2] and then r[3]. -/
theorem test_std_pair : runs (start |> withWord 0x2000 0x8182F384 |> withWord 0x2004 0x05060708 |> withReg 1 0x2000 |> withReg 2 0xAAAAAAAA |> withReg 3 0xBBBBBBBB) 0xC4386000 (fun t => word t 0x2000 == 0xAAAAAAAA && word t 0x2004 == 0xBBBBBBBB) = true := by decide

/-- 95, 2.2: the byte, and all ones in its place. -/
theorem test_ldstub : runs (start |> withWord 0x2000 0x8182F384 |> withWord 0x2004 0x05060708 |> withReg 1 0x2000) 0xC4686001 (fun t => reg t 2 == 0x82 && word t 0x2000 == 0x81FFF384) = true := by decide

/-- 95, 2.2: the word and the register exchanged. -/
theorem test_swap : runs (start |> withWord 0x2000 0x8182F384 |> withWord 0x2004 0x05060708 |> withReg 1 0x2000 |> withReg 2 0xCAFEF00D) 0xC4786004 (fun t => reg t 2 == 0x5060708 && word t 0x2004 == 0xCAFEF00D) = true := by decide

/-- 95, 2.4: ADD wraps and leaves icc. -/
theorem test_add_wraps : runs (start |> withReg 1 0xFFFFFFFF |> withReg 2 1) 0x86004002 (fun t => reg t 3 == 0x0 && icc t == 0) = true := by decide

/-- 95, 2.4: carry and overflow together. -/
theorem test_addcc_both : runs (start |> withReg 1 0x80000000 |> withReg 2 0x80000000) 0x86804002 (fun t => reg t 3 == 0x0 && icc t == 0b0111) = true := by decide

/-- 95, 2.4: the borrow is taken in. -/
theorem test_subxcc_borrow : runs (withIcc 1 start) 0x86E04002 (fun t => reg t 3 == 0xFFFFFFFF && icc t == 0b1001) = true := by decide

/-- 95, 2.4: a tag sets V and the result is written. -/
theorem test_taddcc_tag : runs (start |> withReg 1 5 |> withReg 2 8) 0x87004002 (fun t => reg t 3 == 0xD && icc t == 0b0010) = true := by decide

/-- 95, 2.4: tag_overflow, rd and icc kept. -/
theorem test_taddcctv_traps : runs (withIcc 5 (start |> withReg 1 5 |> withReg 2 8)) 0x87104002 (fun t => t.tt == 10 && icc t == 5) = true := by decide

/-- 95, 2.4: N xor V shifts a one in; the source is the destination. -/
theorem test_mulscc_shift_in : runs (withIcc 8 { start with y := 1 } |> withReg 1 0xFFFFFFFF |> withReg 2 1) 0x83204002 (fun t => reg t 1 == 0x0 && t.y == 0x80000000#32 && icc t == 0b0101) = true := by decide

/-- 95, 2.5. -/
theorem test_orn : runs (start |> withReg 1 0xF0F0F0F0 |> withReg 2 0xFF00FF00) 0x86304002 (fun t => reg t 3 == 0xF0FFF0FF) = true := by decide

/-- 95, 2.5: the count is the low five bits; the sign fills. -/
theorem test_sra_count : runs (start |> withReg 1 0x80000001) 0x87386001 (fun t => reg t 3 == 0xC0000000) = true := by decide

/-- 95, 2.5: bits 12 to 5 are ignored. -/
theorem test_sll_ignored_bits : runs (start |> withReg 1 0x80000001) 0x87287FE4 (fun t => reg t 3 == 0x10) = true := by decide

/-- 95, 2.5: window 0 to window 7; the source is read in the old window. -/
theorem test_save_wraps : runs ({ start with psr := { start.psr with cwp := 0 }, wim := 2 } |> withReg 14 0x8000) 0x9DE3BFC0 (fun t => t.psr.cwp == 7#5 && reg t 14 == 0x7FC0 && reg t 30 == 0x8000) = true := by decide

/-- 95, 2.5: window_underflow; CWP as the trap leaves it. -/
theorem test_restore_underflow : runs ({ start with psr := { start.psr with cwp := 7 } }) 0x81E80000 (fun t => t.tt == 6 && t.psr.cwp == 6#5) = true := by decide

/-- 95, 2.8: untaken with a = 1. -/
theorem test_bne_annuls : runs (withIcc 4 start) 0x32800004 (fun t => t.pc == 0x1004#32 && t.npc == 0x1008#32 && t.annul) = true := by decide

/-- 95, 2.8: taken with a = 1, backwards. -/
theorem test_ba_annuls : runs (start) 0x30BFFFFE (fun t => t.npc == 0xFF8#32 && t.annul) = true := by decide

/-- 95, 2.8: the target wraps backwards; r[15] holds the address of the CALL. -/
theorem test_call_links : runs ({ start with pc := 0x2000, npc := 0x3000 }) 0x7FFFFC40 (fun t => t.pc == 0x3000#32 && t.npc == 0x1100#32 && reg t 15 == 0x2000) = true := by decide

/-- 95, 2.8: the target is computed before r[15] is written. -/
theorem test_jmpl_old_source : runs (start |> withReg 15 0x2000) 0x9FC3E008 (fun t => t.npc == 0x2008#32 && reg t 15 == 0x1000) = true := by decide

/-- 95, 2.8: RETT to user mode in window 6. -/
theorem test_rett_returns : runs ({ start with psr := { start.psr with et := false, ps := false, cwp := 5 }, pc := 0x5004, npc := 0x1000 } |> withReg 18 0x1004) 0x81CCA000 (fun t => t.pc == 0x1000#32 && t.npc == 0x1004#32 && !t.psr.s && t.psr.et && t.psr.cwp == 6#5) = true := by decide

/-- 95, 2.8: RETT in user mode with ET = 0 writes tt = 3 and enters error_mode. -/
theorem test_rett_error_mode : runs (user { start with psr := { start.psr with et := false } }) 0x81CCA000 (fun t => t.iu == .error && t.tt == 3) = true := by decide

/-- 95, 2.8: only seven bits of the sum count. -/
theorem test_ta_number : runs (start |> withReg 1 0x7F |> withReg 2 0x82) 0x91D04002 (fun t => t.tt == 0x81 && t.pc == 0x4810#32) = true := by decide

/-- 95, 2.9: every field in its place. -/
theorem test_rdpsr : runs ({ withIcc 4 start with cfg := { defaultParams with impl := 1, ver := 1 }, psr := { start.psr with icc := ⟨false, true, false, false⟩, pil := 5 } }) 0x83480000 (fun t => reg t 1 == 0x114015A3) = true := by decide

/-- 95, 2.9: bits 19 to 14, impl and ver are not written. -/
theorem test_wrpsr_reserved : runs (start |> withReg 1 0xFFFFFFE7) 0x81884000 (fun t => psrWord t.cfg t.psr == 0x00F03FE7#32) = true := by decide

/-- 95, 2.9: bits beyond NWINDOWS do not exist. -/
theorem test_wrwim_bits : runs (start |> withReg 1 0xFFFFFFFF) 0x81904000 (fun t => t.wim == 0xFF#32) = true := by decide

/-- 95, 2.9: exclusive or, not add. -/
theorem test_wry_xor : runs (start |> withReg 1 3) 0x81806005 (fun t => t.y == 6#32) = true := by decide

/-- 95, 2.10: 16777217 rounds, inexact. -/
theorem test_fitos_inexact : runs (withF 1 0x01000001 start) 0x85A01881 (fun t => fr t 2 == 0x4B800000 && fsrWord t.fpu.fsr == 0x21#32) = true := by decide

/-- 95, 2.10: a tie rounds to even. -/
theorem test_fadds_tie : runs (start |> withF 1 0x3F800000 |> withF 2 0x33800000) 0x87A04822 (fun t => fr t 3 == 0x3F800000 && fsrWord t.fpu.fsr == 0x21#32) = true := by decide

/-- 95, 2.10: division by zero. -/
theorem test_fdivs_zero : runs (withF 1 0xBF800000 start) 0x87A049A2 (fun t => fr t 3 == 0xFF800000 && fsrWord t.fpu.fsr == 0x42#32) = true := by decide

/-- 95, 2.10: NVM = 1: the exception is pending and fcc keeps its value. -/
theorem test_fcmpes_pending : runs (start |> withF 1 0x7FC00000 |> withF 2 0x3F800000 |> withFsr 0x08000400) 0x81A84AA2 (fun t => t.fpu.mode == .exceptionPending && fsrWord t.fpu.fsr == 0x08004410#32) = true := by decide

/-- 95, 2.10: a signaling NaN is moved, cexc and fcc untouched. -/
theorem test_fmovs_keeps_exceptions : runs (withF 1 0x7FA00000 start |> withFsr 0xC1F) 0x85A00021 (fun t => fr t 2 == 0x7FA00000 && t.fpu.fsr.cexc == 0x1F && t.fpu.fsr.fcc == 3) = true := by decide

/-- 95, 2.3: reserved bits stay 0, ftt and qne are kept. -/
theorem test_ldfsr_keeps_ftt : runs (start |> withWord 0x2000 0x8182F384 |> withWord 0x2004 0x05060708 |> withReg 1 0x2000 |> withWord 0x2008 0xFFFFFFFF |> withFtt 3 true) 0xC1086008 (fun t => fsrWord t.fpu.fsr == 0xFFC0EFFF#32) = true := by decide

/-- 95, 2.3: fp_disabled comes before everything else of the instruction. -/
theorem test_fp_disabled : runs ({ start with psr := { start.psr with ef := false } }) 0xC7006004 (fun t => t.tt == 4) = true := by decide

/-- 95, 2.10: unimplemented_FPop; the IU has advanced. -/
theorem test_unassigned_opf : runs (start) 0x81A00000 (fun t => t.fpu.fsr.ftt == 3 && t.fpu.mode == .exceptionPending && t.pc == 0x1004#32) = true := by decide

/-- 95, 2.11: illegal_instruction from user mode in window 0. -/
theorem test_unimp_user : runs (user { start with psr := { start.psr with cwp := 0 } }) 0 (fun t => t.tt == 2 && t.psr.cwp == 7#5 && !t.psr.ps && !t.psr.et) = true := by decide

/-- 95, 2.11: i = 1 is illegal before it is privileged. -/
theorem test_lda_immediate : runs (user start) 0xC4806002 (fun t => t.tt == 2) = true := by decide

/-- 95, 2.11: level 5 above PIL 4. -/
theorem test_interrupt : stepped { start with inputs := ⟨5, false⟩, psr := { start.psr with pil := 4 } }
    (fun t => t.tt == 0x15 && t.pc == 0x4150#32 && reg t 17 == 0x1000) = true := by decide

/-- 95, 2.11: an instruction to be annulled is skipped before the interrupt. -/
theorem test_interrupt_after_annul : stepped { start with inputs := ⟨1, false⟩, annul := true }
    (fun t => t.pc == 0x1004#32 && !t.annul && t.tt == 0) = true := by decide

/-- 70 R572: reset released. -/
theorem test_reset_released : stepped { start with iu := .reset, pbError := false }
    (fun t => t.iu == .execute && t.pc == 0 && t.npc == 4#32 && t.psr.s && !t.psr.et) = true := by decide

/-! ### A witness for the hypotheses of each statement

Each theorem shows a state and operands that meet together the hypotheses of the statement it names; where a statement has several
clauses, one for each. -/

/-- Supervisor, traps enabled, no unit enabled; and with its units. -/
def plainState : State := { start with psr := { start.psr with ef := false } }
def fpState : State := { start with psr := { start.psr with ef := true } }
def cpState : State :=
  { start with cfg := { defaultParams with cpPresent := true }, psr := { start.psr with ec := true },
               cp := { start.cp with mode := .exception } }
def offState : State := { start with psr := { start.psr with et := false } }

/-- The environment where a kind of access to address 0 of the supervisor's data, or of its code, signals an exception. -/
def faulting (asi : Byte) (first : Word) : Params :=
  { defaultParams with faults := [⟨asi, first, first, true, true, true⟩] }

/-- An FPop and a queue entry for it. -/
def anEntry : FqEntry := ⟨0xF00, encode (.fadds 3 1 2), .fadds, 3, 1, 2⟩

/-- Reset requested, and a reset or an error under way. -/
def resetting : State := { start with inputs := ⟨0, true⟩ }
def inReset : State := start.enterReset
def inError : State := start.enterErrorMode

theorem test_witness_DecodeEncodeRoundTrip :
    (Instr.ldd 30 31 (.imm (-4096))).WellFormed ∧ (Instr.ldd 0 0 (.reg 31)).WellFormed ∧
      (Instr.add 31 0 (.imm 4095)).WellFormed := by
  decide

theorem test_witness_DecodeFromBytes : (Instr.stdc 14 1 (.imm 0)).WellFormed := by decide

theorem test_witness_StepRunsFetchedInstruction :
    let s := withWord 0x1000 0x86004002 start
    s.iu = .execute ∧ s.inputs = ⟨0, false⟩ ∧ s.coming = [] ∧ s.quiet ∧ s.annul = false ∧ s.fetchOpen = false ∧ s.stale = [] ∧
      s.unitsSequential ∧ leavesOut s.cfg (encode (Instr.add 3 1 (.reg 2))) = false ∧ (Instr.add 3 1 (.reg 2)).WellFormed ∧
      s.locate .fetch (if s.psr.s then 9 else 8) s.pc = some 0x1000 ∧
      Memory.word s.mem 0x1000 = encode (Instr.add 3 1 (.reg 2)) :=
  ⟨rfl, rfl, rfl, rfl, rfl, rfl, rfl, ⟨rfl, rfl⟩, by decide, by decide, by decide, by decide⟩

theorem test_witness_PlacedWordIsExecuted :
    Memory.wf start.mem = true ∧ 0xFFFFFFFF < 2 ^ 32 ∧ 0xC4806002 < 2 ^ 32 ∧
      decodeWord (BitVec.ofNat 32 0x86004002) = .ok (.add 3 1 (.reg 2)) ∧ decodeWord (BitVec.ofNat 32 0) = .ok (.unimp 0) := by
  decide

theorem test_witness_InterruptRecognition :
    let s : State := { start with inputs := ⟨15, false⟩, psr := { start.psr with pil := 15 } }
    s.iu = .execute ∧ s.inputs.resetIn = false ∧ s.coming = [] ∧ s.quiet ∧ s.annul = false ∧ s.unitsSequential ∧
      s.psr.et = true ∧ s.inputs.irl = 15 :=
  ⟨rfl, rfl, rfl, rfl, rfl, ⟨rfl, rfl⟩, rfl, rfl⟩

theorem test_witness_InterruptRecognition_above :
    let s : State := { start with inputs := ⟨1, false⟩ }
    s.iu = .execute ∧ s.inputs.resetIn = false ∧ s.coming = [] ∧ s.quiet ∧ s.annul = false ∧ s.unitsSequential ∧
      s.psr.et = true ∧ s.psr.pil.toNat < s.inputs.irl.toNat :=
  ⟨rfl, rfl, rfl, rfl, rfl, ⟨rfl, rfl⟩, rfl, by decide⟩

theorem test_witness_InterruptRecognition_none :
    let s : State := { start with inputs := ⟨14, false⟩, psr := { start.psr with pil := 14 } }
    (offState.quiet ∧ offState.psr.et = false) ∧ (State.quiet { start with annul := true } ∧ (true : Bool) = true) ∧
      s.quiet ∧ s.inputs.irl ≠ 15 ∧ s.inputs.irl.toNat ≤ s.psr.pil.toNat :=
  ⟨⟨rfl, rfl⟩, ⟨rfl, rfl⟩, rfl, by decide, by decide⟩

theorem test_witness_AnnulledInstructionIsSkipped :
    let s : State := { start with annul := true }
    s.iu = .execute ∧ s.inputs.resetIn = false ∧ s.coming = [] ∧ s.quiet ∧ s.annul = true ∧ s.unitsSequential ∧
      s.onDevice 8 s.pc = false ∧ s.onDevice 9 s.pc = false ∧ s.prev.conditional = false :=
  ⟨rfl, rfl, rfl, rfl, rfl, ⟨rfl, rfl⟩, rfl, rfl, rfl⟩

theorem test_witness_NoInstructionAtPc :
    let s : State := { start with cfg := faulting 9 0x1000 }
    s.iu = .execute ∧ s.inputs = ⟨0, false⟩ ∧ s.coming = [] ∧ s.quiet ∧ s.annul = false ∧ s.fetchOpen = false ∧
      s.unitsSequential ∧ s.psr.et = true ∧ s.refusedAt .fetch (if s.psr.s then 9 else 8) s.pc :=
  ⟨rfl, rfl, rfl, rfl, rfl, rfl, ⟨rfl, rfl⟩, rfl, rfl, by decide⟩

theorem test_witness_NoInstructionAtPc_leftOut :
    let s : State := { start with cfg := { defaultParams with leftOut := [(0xC1F80000, 0x81200000)] } }
    s.quiet ∧ s.psr.et = true ∧ decodeWord 0x87204002#32 = .ok (.mulscc 3 1 (.reg 2)) ∧ leavesOut s.cfg 0x87204002#32 = true :=
  ⟨rfl, rfl, by decide, by decide⟩

theorem test_witness_NoInstructionAtPc_illegal :
    start.quiet ∧ start.psr.et = true ∧ decodeWord 0x00400000#32 = .error .unassignedOp2 ∧
      decodeWord 0xC1C80000#32 = .error .unassignedOp3 ∧ decodeWord 0xC4806002#32 = .error .alternateImmediate :=
  ⟨rfl, rfl, by decide, by decide, by decide⟩

theorem test_witness_NoInstructionAtPc_fpop :
    fpState.fpReady ∧ fpState.cfg.fpuConcurrent = false ∧ decodeWord 0x81A00000#32 = .error .unassignedFpop ∧
      decodeWord 0x81A80000#32 = .error .unassignedFpop :=
  ⟨⟨rfl, rfl, rfl, rfl, rfl⟩, rfl, by decide, by decide⟩

theorem test_witness_ResetRequestEntersResetMode :
    resetting.inputs.resetIn = true ∧ resetting.coming = [] ∧ resetting.quiet ∧ resetting.unitsSequential ∧
      (resetting.iu = .reset → resetting.Inv) :=
  ⟨rfl, rfl, rfl, ⟨rfl, rfl⟩, fun h => by cases h⟩

theorem test_witness_inReset_Inv : inReset.Inv := by
  refine ⟨rfl, by unfold wordAligned; decide, by unfold wordAligned; decide, by unfold validWindow; decide,
    by unfold validMask; decide, ?_, ⟨by decide, ?_, ?_, by decide, ?_⟩, ?_, ?_, ?_⟩
  · intro p hp; cases hp
  · intro h; rcases h with h | h <;> cases h
  · intro h; cases h
  · intro _ h; cases h
  · exact ⟨fun h => (by cases h), fun h => (by cases h)⟩
  · exact ⟨fun _ => rfl, fun _ => rfl⟩
  · exact ⟨fun h => (by cases h), fun h => (by cases h)⟩

theorem test_witness_ResetRequestEntersResetMode_again :
    let s : State := { inReset with inputs := ⟨0, true⟩ }
    s.inputs.resetIn = true ∧ s.coming = [] ∧ s.quiet ∧ s.unitsSequential ∧ s.iu = .reset ∧ s.Inv :=
  ⟨rfl, rfl, rfl, ⟨rfl, rfl⟩, rfl, test_witness_inReset_Inv⟩

theorem test_witness_ResetTrapState : inReset.iu = .reset ∧ inReset.inputs.resetIn = false ∧ inReset.coming = [] :=
  ⟨rfl, rfl, rfl⟩

theorem test_witness_ResetTrapState_error :
    let s : State := { inError with cfg := { defaultParams with errorResets := true } }
    s.iu = .error ∧ s.inputs.resetIn = false ∧ s.coming = [] ∧ s.cfg.errorResets = true :=
  ⟨rfl, rfl, rfl, rfl⟩

theorem test_witness_ErrorModeHoldsUntilReset :
    inError.Inv ∧ inError.iu = .error ∧ inError.coming = [] ∧ inError.inputs.resetIn = false ∧ inError.cfg.errorResets = false := by
  refine ⟨⟨rfl, by unfold wordAligned; decide, by unfold wordAligned; decide, by unfold validWindow; decide,
    by unfold validMask; decide, ?_, ⟨by decide, ?_, ?_, by decide, ?_⟩, ?_, ?_, ?_⟩, rfl, rfl, rfl, rfl⟩
  · intro p hp; cases hp
  · intro h; rcases h with h | h <;> cases h
  · intro h; cases h
  · intro _ h; cases h
  · exact ⟨fun _ => rfl, fun _ => rfl⟩
  · exact ⟨fun h => (by cases h), fun h => (by cases h)⟩
  · exact ⟨fun _ => rfl, fun _ => rfl⟩

theorem test_witness_ErrorModeHoldsUntilReset_reset :
    State.Inv { inError with inputs := ⟨0, true⟩ } ∧ State.iu { inError with inputs := ⟨0, true⟩ } = .error :=
  ⟨test_witness_ErrorModeHoldsUntilReset.1, rfl⟩

theorem test_witness_start_Inv : start.Inv := by
  refine ⟨rfl, by unfold wordAligned; decide, by unfold wordAligned; decide, by unfold validWindow; decide,
    by unfold validMask; decide, ?_, ⟨by decide, ?_, ?_, by decide, fun _ _ => rfl⟩, ?_, ?_, ?_⟩
  · intro p hp; cases hp
  · intro h; rcases h with h | h <;> cases h
  · intro h; cases h
  all_goals exact ⟨fun h => (by cases h), fun h => (by cases h)⟩

theorem test_witness_StepKeepsInvariant :
    (inReset.Inv ∧ ∃ t, step inReset = .next t) ∧ start.Inv ∧ ∃ t, step start = .next t :=
  ⟨⟨test_witness_inReset_Inv, _, rfl⟩, test_witness_start_Inv, _, rfl⟩

theorem test_witness_OnlyTrapsLeaveUserMode : (user start).userMode ∧ ∃ t, step (user start) = .next t :=
  ⟨⟨rfl, rfl, rfl, fun _ h => by cases h⟩, _, rfl⟩

theorem test_witness_UserStoresStayInUserData :
    (user start).userMode ∧ Memory.wf (user start).mem = true ∧ ∃ t, step (user start) = .next t :=
  ⟨⟨rfl, rfl, rfl, fun _ h => by cases h⟩, rfl, _, rfl⟩

theorem test_witness_WindowsOverlap :
    (7 : BitVec 5).toNat < nwindows start.cfg ∧ (0 : BitVec 5).toNat < nwindows start.cfg ∧
      (24 ≤ (24 : Reg).toNat ∧ 24 ≤ (31 : Reg).toNat) ∧ (8 ≤ (8 : Reg).toNat ∧ (15 : Reg).toNat < 16) ∧ (7 : Reg).toNat < 8 := by
  decide

/-- The statements whose only hypothesis is that no delayed write is in flight: RegisterResults, FlaggedResults, LogicalFlags, MultiplyStep,
ReadStateRegisters and, in every mode, TrapOnCondition, WriteStateRegisters, UnimpAndIflush. -/
theorem test_witness_quiet : start.quiet ∧ (user start).quiet ∧ start.psr.s = true ∧ start.psr.et = true :=
  ⟨rfl, rfl, rfl, rfl⟩

theorem test_witness_TaggedArithmetic :
    let s := start |> withReg 1 0x7FFFFFFC |> withReg 2 4
    s.quiet ∧ s.psr.et = true ∧
      (decide ((s.r 1).toInt + (s.operand (.reg 2)).toInt ≠ (s.r 1 + s.operand (.reg 2)).toInt) ||
        decide ((s.r 1).toNat % 4 ≠ 0) || decide ((s.operand (.reg 2)).toNat % 4 ≠ 0)) = true ∧
      (decide ((s.r 0).toInt + (s.operand (.reg 2)).toInt ≠ (s.r 0 + s.operand (.reg 2)).toInt) ||
        decide ((s.r 0).toNat % 4 ≠ 0) || decide ((s.operand (.reg 2)).toNat % 4 ≠ 0)) = false ∧
      (decide ((s.r 1).toInt - (s.operand (.imm 3)).toInt ≠ (s.r 1 - s.operand (.imm 3)).toInt) ||
        decide ((s.r 1).toNat % 4 ≠ 0) || decide ((s.operand (.imm 3)).toNat % 4 ≠ 0)) = true ∧
      (decide ((s.r 1).toInt - (s.operand (.reg 2)).toInt ≠ (s.r 1 - s.operand (.reg 2)).toInt) ||
        decide ((s.r 1).toNat % 4 ≠ 0) || decide ((s.operand (.reg 2)).toNat % 4 ≠ 0)) = false :=
  ⟨rfl, rfl, by decide, by decide, by decide, by decide⟩

theorem test_witness_WindowRotation :
    let s : State := { start with psr := { start.psr with cwp := 0 } }
    let t : State := { start with psr := { start.psr with cwp := 7 }, wim := 0x41 }
    let below (u : State) : BitVec 5 := BitVec.ofNat 5 ((u.psr.cwp.toNat + nwindows u.cfg - 1) % nwindows u.cfg)
    let above (u : State) : BitVec 5 := BitVec.ofNat 5 ((u.psr.cwp.toNat + 1) % nwindows u.cfg)
    s.quiet ∧ s.wim.getLsbD (below s).toNat = false ∧ s.wim.getLsbD (above s).toNat = false ∧ t.quiet ∧ t.psr.et = true ∧
      t.wim.getLsbD (below t).toNat = true ∧ t.wim.getLsbD (above t).toNat = true :=
  ⟨rfl, by decide, by decide, rfl, rfl, by decide, by decide⟩

/-- Accesses the memory system answers, at the alignments of IntegerLoads, DoublewordLoads, IntegerStores and AtomicExchanges; the
last word of the address space among them. -/
theorem test_witness_accesses :
    Memory.wf start.mem = true ∧ start.quiet ∧ start.psr.s = true ∧
      start.locate .read start.space (start.address 0 (.imm 3)) = some 0 ∧
      start.locate .read start.space (start.address 0 (.imm (-1))) = some 0xFFFFFFFC ∧
      start.locate .read 10 (start.addressA 0 0) = some 0 ∧ start.locate .write 10 (start.addressA 0 0) = some 0 ∧
      start.locate .write start.space (start.address 0 (.imm (-8))) = some 0xFFFFFFF8 ∧
      start.locate .write start.space (start.address 0 (.imm (-8)) + 4) ≠ none ∧
      start.locate .read start.space (start.address 0 (.imm (-8)) + 4) = some 0xFFFFFFFC ∧
      (start.address 0 (.imm (-8))).toNat % 8 = 0 ∧ (start.address 0 (.imm (-2))).toNat % 2 = 0 ∧
      (start.address 0 (.imm (-4))).toNat % 4 = 0 :=
  ⟨rfl, rfl, rfl, by decide, by decide, by decide, by decide, by decide, by decide, by decide, by decide, by decide, by decide⟩

theorem test_witness_MisalignedAccessTraps :
    start.quiet ∧ start.psr.et = true ∧ start.psr.s = true ∧ (start.address 0 (.imm (-1))).toNat % 2 ≠ 0 ∧
      (start.address 0 (.imm 2)).toNat % 4 ≠ 0 ∧ (start.address 0 (.imm 4)).toNat % 8 ≠ 0 ∧
      ((withReg 1 1 start).addressA 1 0).toNat % 2 ≠ 0 :=
  ⟨rfl, rfl, rfl, by decide, by decide, by decide, by decide⟩

theorem test_witness_MisalignedAccessTraps_units :
    (fpState.fpReady ∧ fpState.psr.et = true ∧ fpState.psr.s = true ∧ (fpState.address 0 (.imm 2)).toNat % 4 ≠ 0 ∧
        (fpState.address 0 (.imm 4)).toNat % 8 ≠ 0) ∧
      cpState.cpReady ∧ cpState.psr.et = true ∧ cpState.psr.s = true ∧ (cpState.address 0 (.imm 2)).toNat % 4 ≠ 0 ∧
      (cpState.address 0 (.imm 4)).toNat % 8 ≠ 0 :=
  ⟨⟨⟨rfl, rfl, rfl, rfl, rfl⟩, rfl, rfl, by decide, by decide⟩, ⟨rfl, rfl, rfl, rfl⟩, rfl, rfl, by decide, by decide⟩

theorem test_witness_MemoryExceptionTraps :
    let s : State := { start with cfg := faulting 11 0 }
    s.quiet ∧ s.psr.et = true ∧ s.psr.s = true ∧ s.fpReady ∧ s.refusedAt .read s.space (s.address 0 (.imm 0)) ∧
      s.refusedAt .write s.space (s.address 0 (.imm 0)) ∧ s.refusedAt .read 11 (s.addressA 0 0) ∧
      s.refusedAt .write 11 (s.addressA 0 0) ∧ (s.address 0 (.imm 0)).toNat % 8 = 0 :=
  ⟨rfl, rfl, rfl, ⟨rfl, rfl, rfl, rfl, rfl⟩, ⟨rfl, by decide⟩, ⟨rfl, by decide⟩, ⟨rfl, by decide⟩, ⟨rfl, by decide⟩, by decide⟩

theorem test_witness_MemoryExceptionTraps_second :
    let s : State := { start with cfg := faulting 11 4 }
    Memory.wf s.mem = true ∧ s.quiet ∧ s.psr.et = true ∧ s.fpReady ∧ (s.address 0 (.imm 0)).toNat % 8 = 0 ∧
      s.locate .read s.space (s.address 0 (.imm 0)) = some 0 ∧ s.refusedAt .read s.space (s.address 0 (.imm 0) + 4) ∧
      s.locate .write s.space (s.address 0 (.imm 0)) = some 0 ∧ s.refusedAt .write s.space (s.address 0 (.imm 0) + 4) :=
  ⟨rfl, rfl, rfl, ⟨rfl, rfl, rfl, rfl, rfl⟩, by decide, by decide, ⟨rfl, by decide⟩, by decide, ⟨rfl, by decide⟩⟩

/-- The read of LDSTUB and SWAP answered and the write refused. -/
theorem test_witness_MemoryExceptionTraps_write :
    let s : State := { start with cfg := { defaultParams with faults := [⟨11, 0, 0, false, true, false⟩] } }
    Memory.wf s.mem = true ∧ s.quiet ∧ s.psr.et = true ∧ s.psr.s = true ∧ (s.address 0 (.imm 0)).toNat % 4 = 0 ∧
      s.locate .read s.space (s.address 0 (.imm 0)) = some 0 ∧ s.refusedAt .write s.space (s.address 0 (.imm 0)) ∧
      s.locate .read 11 (s.addressA 0 0) = some 0 ∧ s.refusedAt .write 11 (s.addressA 0 0) :=
  ⟨rfl, rfl, rfl, rfl, by decide, by decide, ⟨rfl, by decide⟩, by decide, rfl, by decide⟩

theorem test_witness_MemoryExceptionTraps_queue :
    let s : State := ({ start with cfg := faulting 11 4 }.setQueue [anEntry]).setFpuMode .exception
    Memory.wf s.mem = true ∧ s.quiet ∧ s.psr.et = true ∧ s.psr.s = true ∧ s.psr.ef = true ∧ s.cfg.fpuPresent = true ∧
      s.fpu.mode = .exception ∧ s.fpu.queue = anEntry :: [] ∧ (s.address 0 (.imm 0)).toNat % 8 = 0 ∧
      s.locate .write s.space (s.address 0 (.imm 0)) = some 0 ∧ s.refusedAt .write s.space (s.address 0 (.imm 0) + 4) :=
  ⟨rfl, rfl, rfl, rfl, rfl, rfl, rfl, rfl, by decide, by decide, rfl, by decide⟩

theorem test_witness_MemoryExceptionTraps_coprocessor :
    let s (a : Word) : State := { cpState with cfg := { faulting 11 a with cpPresent := true } }
    (s 0).psr.et = true ∧ (s 0).psr.s = true ∧ (s 0).cpReady ∧ (s 0).refusedAt .read 11 ((s 0).address 0 (.imm 0)) ∧
      (s 0).refusedAt .write 11 ((s 0).address 0 (.imm 0)) ∧ (s 0).space = 11 ∧ ((s 0).address 0 (.imm 0)).toNat % 8 = 0 ∧
      (s 4).psr.et = true ∧ (s 4).cpReady ∧ (s 4).locate .read 11 ((s 4).address 0 (.imm 0)) = some 0 ∧
      (s 4).refusedAt .read 11 ((s 4).address 0 (.imm 0) + 4) ∧ (s 4).locate .write 11 ((s 4).address 0 (.imm 0)) = some 0 ∧
      (s 4).refusedAt .write 11 ((s 4).address 0 (.imm 0) + 4) ∧ Memory.wf (s 4).mem = true :=
  ⟨rfl, rfl, ⟨rfl, rfl, rfl, rfl⟩, ⟨rfl, by decide⟩, ⟨rfl, by decide⟩, rfl, by decide, rfl, ⟨rfl, rfl, rfl, rfl⟩, by decide,
    ⟨rfl, by decide⟩, by decide, ⟨rfl, by decide⟩, rfl⟩

theorem test_witness_MemoryExceptionTraps_device :
    let s : State := { start with cfg := { defaultParams with devices := [⟨11, 0, 0⟩] } }
    s.quiet ∧ s.psr.et = true ∧ s.psr.s = true ∧ s.onDevice s.space (s.address 0 (.imm 0)) = true ∧
      s.onDevice s.space (s.address 0 (.imm 3)) = true ∧ s.onDevice 11 (s.addressA 0 0) = true ∧
      (s.address 0 (.imm 0)).toNat % 4 = 0 :=
  ⟨rfl, rfl, rfl, by decide, by decide, by decide, by decide⟩

theorem test_witness_PrivilegedInUserModeTraps :
    (user start).quiet ∧ (user start).psr.et = true ∧ (user start).psr.s = false ∧
      (((user start).r 0 ^^^ (user start).operand (.imm 7)).extractLsb' 0 5).toNat < nwindows (user start).cfg :=
  ⟨rfl, rfl, rfl, by decide⟩

/-- IntegerBranches and CallAndJump; CallAndJump's two targets. -/
theorem test_witness_IntegerBranches :
    start.quiet ∧ start.prev.conditional = false ∧ (start.address 0 (.imm (-4))).toNat % 4 = 0 ∧
      (start.address 0 (.imm 2)).toNat % 4 ≠ 0 ∧ start.psr.et = true :=
  ⟨rfl, rfl, by decide, by decide, rfl⟩

theorem test_witness_FloatingBranches : fpState.fpReady ∧ fpState.prev.conditional = false ∧ fpState.prev.fp = false :=
  ⟨⟨rfl, rfl, rfl, rfl, rfl⟩, rfl, rfl⟩

theorem test_witness_FloatingBranches_exception :
    let s : State := fpState.setFpuMode .exception
    s.quiet ∧ s.psr.ef = true ∧ s.cfg.fpuPresent = true ∧ s.fpu.mode = .exception ∧ s.prev.conditional = false ∧
      s.prev.fp = false :=
  ⟨rfl, rfl, rfl, rfl, rfl, rfl⟩

theorem test_witness_CoprocessorBranches : cpState.cpReady ∧ cpState.prev.conditional = false ∧ cpState.prev.cp = false :=
  ⟨⟨rfl, rfl, rfl, rfl⟩, rfl, rfl⟩

/-- A conditional branch came last. -/
def coupled (s : State) : State := { s with prev := ⟨false, false, true, false⟩ }

theorem test_witness_CoupleAfterConditionalBranch :
    ((coupled fpState).quiet ∧ (coupled fpState).prev.conditional = true ∧ (coupled fpState).fpReady ∧
        (coupled cpState).cpReady ∧ (coupled cpState).prev.conditional = true) ∧
      (coupled offState).quiet ∧ (coupled offState).prev.conditional = true ∧ (coupled offState).psr.et = false ∧
      (coupled offState).psr.s = true ∧ ((coupled offState).address 0 (.imm (-4))).toNat % 4 = 0 ∧
      (coupled offState).wim.getLsbD
        (BitVec.ofNat 5 (((coupled offState).psr.cwp.toNat + 1) % nwindows (coupled offState).cfg)).toNat = false :=
  ⟨⟨rfl, rfl, ⟨rfl, rfl, rfl, rfl, rfl⟩, ⟨rfl, rfl, rfl, rfl⟩, rfl⟩, rfl, rfl, rfl, rfl, by decide, by decide⟩

/-- The annulled word a BA, and a word that is no transfer. -/
theorem test_witness_CoupleAfterConditionalBranch_annulled :
    let s : State := { coupled start with annul := true }
    s.iu = .execute ∧ s.inputs.resetIn = false ∧ s.coming = [] ∧ s.quiet ∧ s.annul = true ∧ s.unitsSequential ∧
      s.fetchOpen = false ∧ s.stale = [] ∧ s.prev.conditional = true ∧ wordAligned s.npc ∧
      s.locate .fetch (if s.psr.s then 9 else 8) s.pc = some 0x1000 ∧ delayedTransfer (Memory.word s.mem 0x1000) = false ∧
      delayedTransfer (encode (.ba false 2)) = true :=
  ⟨rfl, rfl, rfl, rfl, rfl, ⟨rfl, rfl⟩, rfl, rfl, rfl, by unfold wordAligned; decide, by decide, by decide, by decide⟩

/-- The four cases of RETT with ET = 0, and the one with ET = 1. -/
theorem test_witness_ReturnFromTrap :
    let above (u : State) : BitVec 5 := BitVec.ofNat 5 ((u.psr.cwp.toNat + 1) % nwindows u.cfg)
    (start.quiet ∧ start.psr.et = true) ∧ ((user offState).quiet ∧ (user offState).psr.s = false) ∧
      (State.quiet { offState with wim := 0x10 } ∧ (0x10 : Word).getLsbD (above offState).toNat = true) ∧
      (offState.quiet ∧ offState.psr.et = false ∧ offState.psr.s = true ∧ offState.wim.getLsbD (above offState).toNat = false ∧
        (offState.address 0 (.imm 2)).toNat % 4 ≠ 0 ∧ (offState.address 0 (.imm (-4))).toNat % 4 = 0 ∧
        offState.prev.conditional = false) :=
  ⟨⟨rfl, rfl⟩, ⟨rfl, rfl⟩, ⟨rfl, by decide⟩, rfl, rfl, rfl, by decide, by decide, by decide, rfl⟩

/-- Integer accesses, refused and misaligned; user mode. -/
theorem test_witness_DisabledTrapsEnterErrorMode :
    let s : State := { offState with cfg := faulting 11 0 }
    s.quiet ∧ s.psr.et = false ∧ s.psr.s = true ∧ (user s).quiet ∧ (user s).psr.et = false ∧ (user s).psr.s = false ∧
      s.refusedAt .read s.space (s.address 0 (.imm 0)) ∧ s.refusedAt .write s.space (s.address 0 (.imm 0)) ∧
      s.refusedAt .read 11 (s.addressA 0 0) ∧ s.refusedAt .write 11 (s.addressA 0 0) ∧
      (s.address 0 (.imm 0)).toNat % 8 = 0 ∧ (s.address 0 (.imm (-1))).toNat % 2 ≠ 0 ∧ (s.address 0 (.imm 2)).toNat % 4 ≠ 0 ∧
      (s.address 0 (.imm 4)).toNat % 8 ≠ 0 :=
  ⟨rfl, rfl, rfl, rfl, rfl, rfl, ⟨rfl, by decide⟩, ⟨rfl, by decide⟩, ⟨rfl, by decide⟩, ⟨rfl, by decide⟩, by decide, by decide,
    by decide, by decide⟩

/-- IFLUSH, WRPSR, windows, tags and conditions. -/
theorem test_witness_DisabledTrapsEnterErrorMode_others :
    let s : State := { withReg 1 1 offState with cfg := { defaultParams with extCachePresent := true }, wim := 0x14 }
    s.quiet ∧ s.psr.et = false ∧ s.cfg.iuCachePresent = false ∧ s.cfg.extCachePresent = true ∧
      nwindows s.cfg ≤ ((s.r 0 ^^^ s.operand (.imm 8)).extractLsb' 0 5).toNat ∧
      s.wim.getLsbD ((s.psr.cwp.toNat + nwindows s.cfg - 1) % nwindows s.cfg) = true ∧
      s.wim.getLsbD ((s.psr.cwp.toNat + 1) % nwindows s.cfg) = true ∧ (s.r 1).toNat % 4 ≠ 0 ∧
      (withIcc 15 s).quiet ∧ (withIcc 15 s).psr.et = false ∧ (withIcc 15 s).psr.icc = ⟨true, true, true, true⟩ ∧
      s.psr.icc = ⟨false, false, false, false⟩ ∧ (withIcc 8 s).quiet ∧ ((withIcc 8 s).psr.icc.n != (withIcc 8 s).psr.icc.v) = true :=
  ⟨rfl, rfl, rfl, rfl, by decide, by decide, by decide, by decide, rfl, rfl, rfl, rfl, rfl, rfl⟩

/-- The units disabled, and with an exception outstanding. -/
theorem test_witness_DisabledTrapsEnterErrorMode_units :
    let off (s : State) : State := { s with psr := { s.psr with et := false } }
    let f : State := off ((fpState.setQueue [anEntry]).setFpuMode .exceptionPending)
    let c : State := off (cpState.setCp { cpState.cp with mode := .exceptionPending })
    ((off plainState).quiet ∧ (off plainState).psr.et = false ∧ (off plainState).psr.s = true ∧
        (off plainState).psr.ef = false ∧ (off plainState).psr.ec = false ∧ (kindOf (.stdfq 0 (.imm 0))).fp = true ∧
        (kindOf (.stdcq 0 (.imm 0))).cp = true) ∧
      (f.quiet ∧ f.psr.et = false ∧ f.psr.ef = true ∧ f.cfg.fpuPresent = true ∧ f.fpu.mode = .exceptionPending ∧
        f.psr.s = true) ∧
      (c.quiet ∧ c.psr.et = false ∧ c.psr.ec = true ∧ c.cfg.cpPresent = true ∧ c.cpPending = true ∧ c.psr.s = true) ∧
      ((off fpState).psr.et = false ∧ (off fpState).fpReady ∧ ((off fpState).address 0 (.imm 2)).toNat % 4 ≠ 0 ∧
        ((off fpState).address 0 (.imm 4)).toNat % 8 ≠ 0) ∧
      (off cpState).psr.et = false ∧ (off cpState).cpReady ∧ ((off cpState).address 0 (.imm 2)).toNat % 4 ≠ 0 ∧
      ((off cpState).address 0 (.imm 4)).toNat % 8 ≠ 0 :=
  ⟨⟨rfl, rfl, rfl, rfl, rfl, rfl, rfl⟩, ⟨rfl, rfl, rfl, rfl, rfl, rfl⟩, ⟨rfl, rfl, rfl, rfl, rfl, rfl⟩,
    ⟨rfl, ⟨rfl, rfl, rfl, rfl, rfl⟩, by decide, by decide⟩, rfl, ⟨rfl, rfl, rfl, rfl⟩, by decide, by decide⟩

/-- Refused accesses of the units, words that are no instruction, and a refused fetch. -/
theorem test_witness_DisabledTrapsEnterErrorMode_refused :
    let s : State := { offState with cfg := faulting 11 0 }
    let c : State := { cpState with psr := { cpState.psr with et := false }, cfg := { faulting 11 0 with cpPresent := true } }
    let p : State := { offState with cfg := faulting 9 0x1000 }
    (s.psr.et = false ∧ s.fpReady ∧ (s.address 0 (.imm 0)).toNat % 4 = 0 ∧ s.refusedAt .read s.space (s.address 0 (.imm 0)) ∧
        s.refusedAt .write s.space (s.address 0 (.imm 0))) ∧
      (c.psr.et = false ∧ c.cpReady ∧ c.refusedAt .write c.space (c.address 0 (.imm 0))) ∧
      (offState.quiet ∧ offState.psr.et = false ∧ decodeWord 0x00400000#32 = .error .unassignedOp2) ∧
      p.iu = .execute ∧ p.inputs = ⟨0, false⟩ ∧ p.coming = [] ∧ p.quiet ∧ p.annul = false ∧ p.fetchOpen = false ∧
      p.unitsSequential ∧ p.psr.et = false ∧ p.refusedAt .fetch (if p.psr.s then 9 else 8) p.pc :=
  ⟨⟨rfl, ⟨rfl, rfl, rfl, rfl, rfl⟩, by decide, ⟨rfl, by decide⟩, rfl, by decide⟩, ⟨rfl, ⟨rfl, rfl, rfl, rfl⟩, rfl, by decide⟩,
    ⟨rfl, rfl, by decide⟩, rfl, rfl, rfl, rfl, rfl, rfl, ⟨rfl, rfl⟩, rfl, rfl, by decide⟩

theorem test_witness_WriteStateRegisters :
    start.quiet ∧ start.psr.s = true ∧ start.psr.et = true ∧
      ((start.r 0 ^^^ start.operand (.imm 7)).extractLsb' 0 5).toNat < nwindows start.cfg ∧
      nwindows start.cfg ≤ ((start.r 0 ^^^ start.operand (.imm 8)).extractLsb' 0 5).toNat :=
  ⟨rfl, rfl, rfl, by decide, by decide⟩

/-- Two states a delayed write of Y apart; a value that its field holds; a step with an old value in flight. -/
theorem test_witness_WriteStateRegisters_delayed :
    DelayedFrom start { start with y := 5, flight := [⟨.y, 0, 3⟩] } ∧ (start.setLive .cwp 7).live .cwp = 7 ∧
      (start.setLive .wim 0xFFFFFFFF).live .wim = 0xFFFFFFFF ∧ start.iu = .execute ∧ (∃ t, step start = .next t) ∧
      start.psr.et = true ∧ start.flight = [] ∧ start.resetAhead = false :=
  ⟨⟨fun f => by cases f <;> decide, fun p h => by rw [List.mem_singleton.1 h]; rfl⟩, by decide, by decide, rfl, ⟨_, rfl⟩, rfl, rfl,
    rfl⟩

/-- States in which SAVE, RESTORE and RETT complete with an old value of a field they settle in flight. -/
theorem test_witness_WriteStateRegisters_settled :
    let s : State := { start with wim := 0, flight := [⟨.cwp, 1, 2⟩, ⟨.y, 7, 1⟩] }
    let t : State := { offState with wim := 0, flight := [⟨.cwp, 1, 2⟩, ⟨.ps, 1, 2⟩] }
    (s.wim = 0 ∧ ∀ p ∈ s.flight, p.field ≠ .wim) ∧ t.wim = 0 ∧
      (∀ p ∈ t.flight, p.field ≠ .wim ∧ p.field ≠ .et ∧ p.field ≠ .s) ∧ t.psr.et = false ∧ t.psr.s = true ∧
      ({ t with flight := [⟨.ps, 1, 2⟩] }.ea 0 (.imm 4)).toNat % 4 = 0 :=
  ⟨⟨rfl, by decide⟩, rfl, by decide, rfl, rfl, by decide⟩

theorem test_witness_UnimpAndIflush :
    let s : State := { start with cfg := { defaultParams with extCachePresent := true } }
    let t : State := { start with cfg := { defaultParams with iuCachePresent := true, extCachePresent := true } }
    (s.quiet ∧ s.cfg.iuCachePresent = false ∧ s.cfg.extCachePresent = true ∧ s.psr.et = true) ∧
      (t.quiet ∧ t.cfg.iuCachePresent = true) ∧ start.quiet ∧ start.cfg.iuCachePresent = false ∧
      start.cfg.extCachePresent = false :=
  ⟨⟨rfl, rfl, rfl, rfl⟩, ⟨rfl, rfl⟩, rfl, rfl, rfl⟩

/-- FloatingLoads, FloatingStores, FsrLoadAndStore and FPops: the FPU ready, at the addresses of `test_witness_accesses`. -/
theorem test_witness_FloatingLoads :
    fpState.fpReady ∧ Memory.wf fpState.mem = true ∧ fpState.cfg.fpuConcurrent = false ∧
      fpState.locate .read fpState.space (fpState.address 0 (.imm (-8))) = some 0xFFFFFFF8 ∧
      fpState.locate .read fpState.space (fpState.address 0 (.imm (-8)) + 4) = some 0xFFFFFFFC ∧
      fpState.locate .write fpState.space (fpState.address 0 (.imm (-8))) = some 0xFFFFFFF8 ∧
      fpState.locate .write fpState.space (fpState.address 0 (.imm (-8)) + 4) ≠ none ∧
      (fpState.address 0 (.imm (-8))).toNat % 8 = 0 ∧ (fpState.address 0 (.imm (-8))).toNat % 4 = 0 :=
  ⟨⟨rfl, rfl, rfl, rfl, rfl⟩, rfl, rfl, by decide, by decide, by decide, by decide, by decide, by decide⟩

theorem test_witness_StoreFloatingQueue :
    let s : State := (fpState.setQueue [anEntry]).setFpuMode .exception
    Memory.wf s.mem = true ∧ s.quiet ∧ s.psr.s = true ∧ s.psr.ef = true ∧ s.cfg.fpuPresent = true ∧ s.fpu.mode = .exception ∧
      s.fpu.queue = anEntry :: [] ∧ (s.address 0 (.imm 0)).toNat % 8 = 0 ∧
      s.locate .write s.space (s.address 0 (.imm 0)) = some 0 ∧ s.locate .write s.space (s.address 0 (.imm 0) + 4) ≠ none :=
  ⟨rfl, rfl, rfl, rfl, rfl, rfl, rfl, by decide, by decide, by decide⟩

theorem test_witness_FloatingDisabledTraps :
    plainState.quiet ∧ plainState.psr.et = true ∧ plainState.psr.s = true ∧ plainState.psr.ef = false ∧
      (kindOf (.stdfq 0 (.imm 0))).fp = true ∧ (kindOf (.fba false 0)).fp = true ∧ (kindOf (.fmovs 0 0 0)).fp = true ∧
      decodeWord 0x81A00000#32 = .error .unassignedFpop :=
  ⟨rfl, rfl, rfl, rfl, rfl, rfl, rfl, by decide⟩

theorem test_witness_PendingFloatingExceptionTraps :
    let s : State := (fpState.setQueue [anEntry]).setFpuMode .exceptionPending
    s.quiet ∧ s.psr.et = true ∧ s.psr.s = true ∧ s.psr.ef = true ∧ s.cfg.fpuPresent = true ∧
      s.fpu.mode = .exceptionPending ∧ (kindOf (.ldf 0 0 (.imm 0))).fp = true :=
  ⟨rfl, rfl, rfl, rfl, rfl, rfl, rfl⟩

theorem test_witness_FpopInOtherModes :
    let s : State := (fpState.setQueue [anEntry]).setFpuMode .exception
    FpopOf (.fadds 3 1 2) .fadds 3 1 2 ∧ s.quiet ∧ s.psr.ef = true ∧ s.cfg.fpuPresent = true ∧ s.fpu.mode = .exception ∧
      Memory.wf s.mem = true ∧ s.locate .read s.space (s.address 0 (.imm 0)) = some 0 ∧
      s.locate .read s.space (s.address 0 (.imm 0) + 4) = some 4 ∧ s.locate .write s.space (s.address 0 (.imm 0)) = some 0 ∧
      s.locate .write s.space (s.address 0 (.imm 0) + 4) ≠ none ∧ (s.address 0 (.imm 0)).toNat % 8 = 0 ∧
      (s.address 0 (.imm 0)).toNat % 4 = 0 :=
  ⟨.fadds 3 1 2, rfl, rfl, rfl, rfl, rfl, by decide, by decide, by decide, by decide, by decide, by decide⟩

theorem test_witness_FpopInOtherModes_concurrent :
    let s : State := { fpState with cfg := { defaultParams with fpuConcurrent := true } }
    FpopOf (.fcmpx 0 31 30) .fcmpx 0 31 30 ∧ s.quiet ∧ s.psr.ef = true ∧ s.cfg.fpuPresent = true ∧
      s.cfg.fpuConcurrent = true ∧ s.fpu.mode = .execute ∧ s.fpu.queue.length < queueDepth s.cfg :=
  ⟨.fcmpx 0 31 30, rfl, rfl, rfl, rfl, rfl, by decide⟩

theorem test_witness_FpopCompletes :
    FpopOf (.fmovs 3 0 2) .fmovs 3 0 2 ∧ fpState.fpReady ∧ fpState.cfg.fpuConcurrent = false ∧
      ∃ ans, fpAnswer .fmovs fpState 0 2 = some ans ∧ Finishes fpState.cfg .fmovs ans ∧
        ans.texc &&& fpState.fpu.fsr.tem &&& (fpState.cfg.temBits ||| 1) = 0 :=
  ⟨.fmovs 3 0 2, ⟨rfl, rfl, rfl, rfl, rfl⟩, rfl, _, rfl, ⟨List.not_mem_nil, List.not_mem_nil⟩, by decide⟩

/-- An FPop with NVM = 1 and a signaling NaN; one not implemented; one not finished. -/
theorem test_witness_FpopStops :
    let s := withFsr 0x08000000 (withF 1 0x7FA00000 fpState)
    FpopOf (.fcmps 0 1 2) .fcmps 0 1 2 ∧ s.fpReady ∧ s.cfg.fpuConcurrent = false ∧
      fpAnswer .fcmps s 1 2 = some ⟨0x7FA00000, 0, .fcc 3, 0b10000⟩ ∧
      Finishes s.cfg .fcmps ⟨0x7FA00000, 0, .fcc 3, 0b10000⟩ ∧ (∀ w, FpResult.fcc 3 ≠ .move w) ∧
      (0b10000 : BitVec 5) &&& s.fpu.fsr.tem &&& (s.cfg.temBits ||| 1) ≠ 0 :=
  ⟨.fcmps 0 1 2, ⟨rfl, rfl, rfl, rfl, rfl⟩, rfl, by decide, ⟨List.not_mem_nil, List.not_mem_nil⟩, fun _ h => (by cases h),
    by decide⟩

theorem test_witness_FpopStops_unimplemented :
    let s : State := { fpState with cfg := { defaultParams with unimplemented := [.fsqrts], unfinished := [(.fmovs, 0, 0)] } }
    FpopOf (.fsqrts 3 0 2) .fsqrts 3 0 2 ∧ FpopOf (.fmovs 3 0 2) .fmovs 3 0 2 ∧ s.fpReady ∧ s.cfg.fpuConcurrent = false ∧
      FpFn.fsqrts ∈ s.cfg.unimplemented ∧ FpFn.fmovs ∉ s.cfg.unimplemented ∧
      fpAnswer .fmovs s 0 2 = some ⟨0, 0, .move 0, 0⟩ ∧ (FpFn.fmovs, 0, 0) ∈ s.cfg.unfinished :=
  ⟨.fsqrts 3 0 2, .fmovs 3 0 2, ⟨rfl, rfl, rfl, rfl, rfl⟩, rfl, by decide, by decide, by decide, by decide⟩

theorem test_witness_MovesAreBitOperations :
    (∃ a, fpAnswer .fmovs fpState 0 2 = some a) ∧ (∃ a, fpAnswer .fnegs fpState 0 2 = some a) ∧
      ∃ a, fpAnswer .fabss fpState 0 2 = some a :=
  ⟨⟨_, rfl⟩, ⟨_, rfl⟩, _, rfl⟩

/-- Comparison and the conversions to an integer: operands that are numbers of the architecture. -/
theorem test_witness_Comparison :
    fpState.fpu.fsr.au = false ∧ (∀ d ∈ [Dest.single, .double, .extended], fpState.operandNum d 0 ≠ .unnormal) ∧
      FpNum.isNumber (.zero true) ∧ FpNum.isNumber (.finite false 1 0) ∧ isNan (.inf true) = false := by
  refine ⟨rfl, by decide, trivial, ?_, rfl⟩
  show (1 : Nat) ≠ 0
  decide

/-- 1.0 in single, double and extended: operands of each arithmetic clause, and their sums in range. -/
theorem test_witness_ArithmeticIsCorrectlyRounded :
    let s := fpState |> withF 0 0x3F800000 |> withF 2 0x3FF00000 |> withF 4 0x3FFF0000 |> withF 5 0x80000000
    s.fpu.fsr.au = false ∧ s.fpu.fsr.rp = 0 ∧ s.operandNum .single 0 = .finite false (2 ^ 23) (-23) ∧
      s.operandNum .double 2 = .finite false (2 ^ 52) (-52) ∧ s.operandNum .extended 4 = .finite false (2 ^ 63) (-63) ∧
      s.operandNum .single 10 = .zero false ∧ s.operandNum .double 10 = .zero false ∧ s.operandNum .extended 12 = .zero false := by
  decide

/-- Zero is in range of every format; a number of value 1 and one below zero. -/
theorem test_witness_ArithmeticIsCorrectlyRounded_range :
    FpNum.isNumber (.zero false) ∧ (∀ d, |(FpNum.value (.zero false) : ℝ) + FpNum.value (.zero true)| ≤ (formatOf d).largest) ∧
      (FpNum.value (.finite false 1 0) ≠ 0 ∧ FpNum.value (.finite true 1 0) < 0 ∧
        |(FpNum.value (.zero false) : ℝ) / FpNum.value (.finite false 1 0)| ≤ formatSingle.largest) := by
  have h : ∀ d, (0 : ℝ) ≤ (formatOf d).largest := by
    intro d
    have : (1 : ℝ) ≤ 2 ^ (formatOf d).precision := one_le_pow₀ (by norm_num)
    exact mul_nonneg (by linarith) (by positivity)
  refine ⟨trivial, fun d => ?_, ?_, ?_, ?_⟩
  · simpa [FpNum.value] using h d
  · simp [FpNum.value]
  · simp [FpNum.value]
  · have := h .single
    simpa [FpNum.value, formatOf] using this

/-- Beyond the largest single: the sum of two largest singles, one over one half, and two to the 128 as a double. -/
theorem test_witness_ArithmeticIsCorrectlyRounded_beyond :
    let s := fpState |> withF 0 0x7F7FFFFF |> withF 1 0x3F000000 |> withF 2 0x47F00000
    let a : FpNum := .finite false (2 ^ 24 - 1) 104
    let b : FpNum := .finite false (2 ^ 23) (-24)
    let c : FpNum := .finite false (2 ^ 52) 76
    (s.operandNum .single 0 = a ∧ s.operandNum .single 1 = b ∧ s.operandNum .double 2 = c) ∧
      formatSingle.largest < |(a.value : ℝ) + a.value| ∧ formatSingle.largest < |(a.value : ℝ) / b.value| ∧
      formatSingle.largest < |(c.value : ℝ)| := by
  refine ⟨by decide, ?_, ?_, ?_⟩ <;> simp [FpNum.value, FpFormat.largest, formatSingle] <;> norm_num [abs_of_pos]

/-- Infinities of both signs and zeros: the invalid operations. -/
theorem test_witness_ArithmeticIsCorrectlyRounded_invalid :
    let s := fpState |> withF 0 0x7F800000 |> withF 1 0xFF800000 |> withF 2 0x7FF00000 |> withF 4 0x7FFF0000
    s.operandNum .single 0 = .inf false ∧ s.operandNum .single 1 = .inf true ∧ s.operandNum .double 2 = .inf false ∧
      s.operandNum .extended 4 = .inf false ∧ s.operandNum .single 3 = .zero false := by
  decide

/-- Each direction and sign of RoundingDirections; a tie among them: 5 to a multiple of 2. -/
theorem test_witness_RoundingDirections :
    roundShift 0 false 5 1 = (2, true) ∧ roundShift 1 true 5 1 = (2, true) ∧ roundShift 2 true 5 1 = (2, true) ∧
      roundShift 3 false 5 1 = (2, true) ∧ roundShift 2 false 5 1 = (3, true) ∧ roundShift 3 true 5 1 = (3, true) := by
  decide

/-- The largest and the smallest integer that fit, and those beyond them. -/
theorem test_witness_TruncationTowardZero :
    truncated (.finite false (2 ^ 31 - 1) 0) = some (0x7FFFFFFF#32, false) ∧ truncated (.finite false 1 31) = none ∧
      truncated (.finite true 1 31) = some (0x80000000#32, false) ∧ truncated (.finite true (2 ^ 31 + 1) 0) = none ∧
      truncated (.finite true (2 ^ 32 + 1) (-1)) = some (0x80000000#32, true) := by
  decide

/-- CoprocessorLoadsAndOperates and CoprocessorStores. -/
theorem test_witness_CoprocessorLoadsAndOperates :
    cpState.cpReady ∧ Memory.wf cpState.mem = true ∧ cpState.psr.s = true ∧
      cpState.locate .read cpState.space (cpState.address 0 (.imm (-8))) = some 0xFFFFFFF8 ∧
      cpState.locate .read cpState.space (cpState.address 0 (.imm (-8)) + 4) = some 0xFFFFFFFC ∧
      cpState.locate .write cpState.space (cpState.address 0 (.imm (-8))) = some 0xFFFFFFF8 ∧
      cpState.locate .write cpState.space (cpState.address 0 (.imm (-8)) + 4) ≠ none ∧
      (cpState.address 0 (.imm (-8))).toNat % 8 = 0 ∧ (cpState.address 0 (.imm (-8))).toNat % 4 = 0 :=
  ⟨⟨rfl, rfl, rfl, rfl⟩, rfl, rfl, by decide, by decide, by decide, by decide, by decide, by decide⟩

theorem test_witness_CoprocessorDisabledTraps :
    let s : State := cpState.setCp { cpState.cp with mode := .exceptionPending }
    (start.quiet ∧ start.psr.et = true ∧ start.psr.s = true ∧ start.psr.ec = false ∧ (kindOf (.cba false 0)).cp = true) ∧
      s.quiet ∧ s.psr.et = true ∧ s.psr.s = true ∧ s.psr.ec = true ∧ s.cfg.cpPresent = true ∧
      s.cpPending = true ∧ (kindOf (.stdcq 0 (.imm 0))).cp = true :=
  ⟨⟨rfl, rfl, rfl, rfl, rfl⟩, rfl, rfl, rfl, rfl, rfl, rfl, rfl⟩

end Sys2Proof.Tests
end

/-! ## Every step keeps the invariant (O14)

One lemma for each operation that instructions share, from its list of cases in Laws/Cases; then each instruction is one of
these operations, and a step is a cycle around an instruction. -/

namespace Sys2Proof.Machine

/-! ### Integer loads and stores -/

theorem State.readWord_sound {s s1 : State} (h : s.sound) {asi : Byte} {a : Word} {r : Option Word}
    (hr : s.readWord asi a = (s1, r)) : s1.sound := by
  have hs := State.memoryRead_sound h .read asi a 0b1111#4
  rwa [show s.memoryRead .read asi a 0b1111#4 = (s1, r) from hr] at hs

theorem State.readByte_sound {s : State} (h : s.sound) (asi : Byte) (a : Word) : (s.readByte asi a).1.sound :=
  State.memoryRead_sound h .read asi a (byteMask a)

theorem State.readHalf_sound {s : State} (h : s.sound) (asi : Byte) (a : Word) : (s.readHalf asi a).1.sound :=
  State.memoryRead_sound h .read asi a (halfMask a)

theorem State.loadReg_inv {s : State} (h : s.sound) (rd : Reg) (isAligned : Bool) {r : State × Option Word}
    (hr : r.1.sound) : (s.loadReg rd isAligned r).Inv := by
  rcases s.loadReg_cases rd isAligned r with ⟨-, e⟩ | ⟨-, -, e⟩ | ⟨-, v, -, e⟩ <;> rw [e]
  · exact State.takeTrap_inv h _
  · exact State.takeTrap_inv hr _
  · exact (State.advance_sound (State.setReg_sound hr _ _ _)).1

theorem State.loadDouble_inv {s : State} (h : s.sound) (asi : Byte) (a : Word) (rd : Reg) : (s.loadDouble asi a rd).Inv := by
  rcases s.loadDouble_cases asi a rd with
    ⟨-, e⟩ | ⟨-, s1, h1, e⟩ | ⟨-, s1, w0, h1, ⟨s2, h2, e⟩ | ⟨s2, w1, h2, e⟩⟩ <;> rw [e]
  · exact State.takeTrap_inv h _
  · exact State.takeTrap_inv (State.readWord_sound h h1) _
  · exact State.takeTrap_inv (State.readWord_sound (State.setReg_sound (State.readWord_sound h h1) _ _ _) h2) _
  · have hs2 := State.readWord_sound (State.setReg_sound (State.readWord_sound h h1) _ _ _) h2
    exact (State.advance_sound (State.setReg_sound hs2 _ _ _)).1

theorem State.store_inv {s : State} (h : s.sound) (isAligned : Bool) {r : Option State} (hr : ∀ t, r = some t → t.sound) :
    (s.store isAligned r).Inv := by
  rcases s.store_cases isAligned r with ⟨-, e⟩ | ⟨-, -, e⟩ | ⟨-, t, ht, e⟩ <;> rw [e]
  · exact State.takeTrap_inv h _
  · exact State.takeTrap_inv h _
  · exact (State.advance_sound (hr t ht)).1

/-- A store of one access: a byte, a halfword or a word. -/
theorem State.storeAccess_inv {s : State} (h : s.sound) (isAligned : Bool) (asi : Byte) (a : Word) (mask : BitVec 4)
    (data : Word) : (s.store isAligned (s.memoryWrite asi a mask data)).Inv :=
  State.store_inv h isAligned fun _ ht => State.memoryWrite_sound h ht

theorem State.storePair_inv {s : State} (h : s.sound) (asi : Byte) (a v0 v1 : Word) : (s.storePair asi a v0 v1).Inv := by
  rcases s.storePair_cases asi a v0 v1 with
    ⟨-, e⟩ | ⟨-, -, e⟩ | ⟨-, s1, h1, ⟨-, e⟩ | ⟨s2, h2, e⟩⟩ <;> rw [e]
  · exact State.takeTrap_inv h _
  · exact State.takeTrap_inv h _
  · exact State.takeTrap_inv (State.memoryWrite_sound h h1) _
  · exact (State.advance_sound (State.memoryWrite_sound (State.memoryWrite_sound h h1) h2)).1

theorem State.loadStoreByte_inv {s : State} (h : s.sound) (asi : Byte) (a : Word) (rd : Reg) :
    (s.loadStoreByte asi a rd).Inv := by
  have hr := State.readByte_sound h asi a
  rcases s.loadStoreByte_cases asi a rd with ⟨s1, h1, e⟩ | ⟨s1, b, h1, s2, rfl, ⟨-, e⟩ | ⟨s3, h3, e⟩⟩ <;> rw [e] <;>
    rw [h1] at hr
  · exact State.takeTrap_inv hr _
  · exact State.takeTrap_inv (State.setReg_sound hr _ _ _) _
  · exact (State.advance_sound (State.memoryWrite_sound (State.setReg_sound hr _ _ _) h3)).1

theorem State.swapWord_inv {s : State} (h : s.sound) (asi : Byte) (a : Word) (rd : Reg) : (s.swapWord asi a rd).Inv := by
  rcases s.swapWord_cases asi a rd with
    ⟨-, e⟩ | ⟨-, s1, h1, e⟩ | ⟨-, s1, w, h1, s2, rfl, ⟨-, e⟩ | ⟨s3, h3, e⟩⟩ <;> rw [e]
  · exact State.takeTrap_inv h _
  · exact State.takeTrap_inv (State.readWord_sound h h1) _
  · exact State.takeTrap_inv (State.setReg_sound (State.readWord_sound h h1) _ _ _) _
  · exact (State.advance_sound (State.memoryWrite_sound (State.setReg_sound (State.readWord_sound h h1) _ _ _) h3)).1

/-! ### Registers, condition codes, windows, control transfers -/

theorem State.setReg_advance_inv {s : State} (h : s.sound) (u : Use) (rd : Reg) (v : Word) :
    (s.setReg u rd v).advance.Inv :=
  (State.advance_sound (State.setReg_sound h u rd v)).1

theorem State.writeFlagged_inv {s : State} (h : s.sound) (rd : Reg) (v : Word) (flags : Icc) :
    (s.writeFlagged rd v flags).Inv :=
  (State.advance_sound (State.putIcc_sound (State.setReg_sound h _ rd v) flags)).1

theorem State.privileged_inv {s : State} (h : s.sound) {body : State → State} (hb : (body s).Inv) :
    (s.privileged body).Inv := by
  rcases s.privileged_cases body with ⟨-, e⟩ | ⟨-, e⟩ <;> rw [e]
  · exact hb
  · exact State.takeTrap_inv h _

theorem State.ite_takeTrap_inv {s : State} (h : s.sound) (c : Bool) (t : Trap) {s' : State} (hs' : s'.Inv) :
    (if c then s.takeTrap t else s').Inv := by
  split
  · exact State.takeTrap_inv h t
  · exact hs'

theorem State.changeWindow_inv {s : State} (h : s.sound) {w : BitVec 5} (hw : validWindow s.cfg w) (t : Trap) (rd : Reg)
    (v : Word) : (s.changeWindow w t rd v).Inv := by
  rcases s.changeWindow_cases w t rd v with ⟨-, e⟩ | ⟨-, e⟩ <;> rw [e]
  · exact State.takeTrap_inv h t
  · exact (State.advance_sound (State.setRegIn_sound (State.putCwp_sound h hw) w rd v)).1

theorem State.trapOn_inv {s : State} (h : s.sound) (test : Icc → Bool) (rs1 : Reg) (src : Operand2) :
    (s.trapOn test rs1 src).Inv := by
  rcases s.trapOn_cases test rs1 src with ⟨-, e⟩ | ⟨-, e⟩ <;> rw [e]
  · exact State.takeTrap_inv h _
  · exact (State.advance_sound h).1

theorem State.branch_inv {s : State} (h : s.sound) (taken annul : Bool) (disp : BitVec 22) :
    (s.branch taken annul disp).Inv := by
  rcases s.branch_cases taken annul disp with ⟨-, e⟩ | ⟨-, e⟩ <;> rw [e]
  · exact (State.transfer_sound h (wordAligned_branchTarget h.1.pc_aligned disp) _).1
  · exact (State.transfer_sound h (wordAligned_add_four h.1.npc_aligned) _).1

theorem State.branchAlways_inv {s : State} (h : s.sound) (annul : Bool) (disp : BitVec 22) :
    (s.branchAlways annul disp).Inv :=
  (State.transfer_sound h (wordAligned_branchTarget h.1.pc_aligned disp) annul).1

theorem State.branchNever_inv {s : State} (h : s.sound) (annul : Bool) : (s.branchNever annul).Inv :=
  (State.transfer_sound h (wordAligned_add_four h.1.npc_aligned) annul).1

theorem State.call_inv {s : State} (h : s.sound) (disp : BitVec 30) :
    ((s.setReg .link 15 s.pc).transfer (callTarget s.pc disp) false).Inv :=
  (State.transfer_sound (State.setReg_sound h _ _ _) (wordAligned_callTarget h.1.pc_aligned disp) false).1

/-- JMPL by its alignment. -/
theorem State.jump_inv {s : State} (h : s.sound) (rd : Reg) (a : Word) :
    (if aligned a 4 then (s.setReg .rdWrite rd s.pc).transfer a false else s.takeTrap .memAddressNotAligned).Inv := by
  split
  · next ha => exact (State.transfer_sound (State.setReg_sound h _ _ _) (wordAligned_of_aligned ha) false).1
  · exact State.takeTrap_inv h _

theorem State.failReturn_inv {s : State} (h : s.sound) (t : Trap) : (s.failReturn t).Inv := by
  unfold State.failReturn
  split
  · exact h.1
  · exact State.enterErrorMode_inv (State.setTt_sound h _).1

theorem execRett_inv {s : State} (h : s.sound) (rs1 : Reg) (src : Operand2) :
    ∃ t, execRett rs1 src s = .next t ∧ t.Inv := by
  refine ⟨_, rfl, ?_⟩
  dsimp only
  split
  · exact State.takeTrap_inv h _
  split
  · exact State.failReturn_inv h _
  split
  · exact State.failReturn_inv h _
  split
  · exact State.failReturn_inv h _
  next ha =>
    have hw : validWindow (s.putEt true).cfg (windowAbove s.cfg (s.seeCwp .window)) := validWindow_above _ _
    have hs := State.putS_sound (State.putCwp_sound (State.putEt_sound h true) hw) (s.seeBool .returnMode .ps)
    exact (State.transfer_sound (State.setFetchOpen_sound hs _) (wordAligned_of_aligned (by simpa using ha)) false).1

/-! ### State registers -/

/-- A delayed write of a field that is neither CWP nor WIM. -/
theorem State.putDelayed_free_sound {s : State} (h : s.sound) {f : Delayed} (v : Word) (hc : f ≠ .cwp) (hw : f ≠ .wim) :
    (s.putDelayed f v).sound :=
  State.putDelayed_sound h (fun e => absurd e hc) (fun e => absurd e hw)

theorem State.putPsrDelayed_sound {s : State} (h : s.sound) {v : Word} (hv : validWindow s.cfg (v.extractLsb' 0 5)) :
    (s.putPsrDelayed v).sound := by
  have h1 := State.putDelayed_free_sound h (f := .icc) ((v.extractLsb' 20 4).setWidth 32) (by decide) (by decide)
  have h2 := State.putDelayed_free_sound h1 (f := .ec) ((v.extractLsb' 13 1).setWidth 32) (by decide) (by decide)
  have h3 := State.putDelayed_free_sound h2 (f := .ef) ((v.extractLsb' 12 1).setWidth 32) (by decide) (by decide)
  have h4 := State.putDelayed_free_sound h3 (f := .pil) ((v.extractLsb' 8 4).setWidth 32) (by decide) (by decide)
  have h5 := State.putDelayed_free_sound h4 (f := .s) ((v.extractLsb' 7 1).setWidth 32) (by decide) (by decide)
  have h6 := State.putDelayed_free_sound h5 (f := .ps) ((v.extractLsb' 6 1).setWidth 32) (by decide) (by decide)
  have h7 := State.putDelayed_free_sound h6 (f := .et) ((v.extractLsb' 5 1).setWidth 32) (by decide) (by decide)
  exact State.putDelayed_sound h7 (fun _ => by simpa using hv) (fun e => by cases e)

theorem execWrpsr_inv {s : State} (h : s.sound) (rs1 : Reg) (src : Operand2) :
    ∃ t, execWrpsr rs1 src s = .next t ∧ t.Inv := by
  refine ⟨_, rfl, ?_⟩
  dsimp only
  split
  · exact State.takeTrap_inv h _
  · next hv => exact State.privileged_inv h (State.advance_sound (State.putPsrDelayed_sound h (Nat.lt_of_not_le hv))).1

theorem State.putDelayed_advance_inv {s : State} (h : s.sound) {f : Delayed} (v : Word) (hc : f ≠ .cwp) (hw : f ≠ .wim) :
    (s.putDelayed f v).advance.Inv :=
  (State.advance_sound (State.putDelayed_free_sound h v hc hw)).1

theorem State.putWim_advance_inv {s : State} (h : s.sound) (v : Word) :
    (s.putDelayed .wim (v &&& wimMask s.cfg)).advance.Inv :=
  (State.advance_sound (State.putDelayed_sound h (fun e => by cases e) (fun _ => validMask_and s.cfg v))).1

theorem execIflush_inv {s : State} (h : s.sound) (rs1 : Reg) (src : Operand2) :
    ∃ t, execIflush rs1 src s = .next t ∧ t.Inv := by
  refine ⟨_, rfl, ?_⟩
  split
  · exact (State.flushWord_sound (State.advance_sound h) _).1
  split
  · exact State.takeTrap_inv h _
  · exact (State.advance_sound h).1

end Sys2Proof.Machine

namespace Sys2Proof.Machine

/-! ### Floating-point loads and stores -/

theorem State.readWord_fpu {s s1 : State} {asi : Byte} {a : Word} {r : Option Word} (hr : s.readWord asi a = (s1, r)) :
    s1.fpu = s.fpu := by
  have e := State.memoryRead_only s .read asi a 0b1111#4
  rw [show s.memoryRead .read asi a 0b1111#4 = (s1, r) from hr] at e
  exact (congrArg State.fpu e :)

theorem State.keepOrConstant_sound {s : State} (h : s.sound) (n : Nat) (r : Reg) : (s.keepOrConstant n r).sound := by
  unfold State.keepOrConstant
  split
  · exact State.setFreg_sound h _ _
  · exact h

theorem State.loadFreg_sound {s : State} (h : s.sound) (n : Nat) (r : Reg) (v : Word) : (s.loadFreg n r v).sound := by
  unfold State.loadFreg
  split
  · exact h
  · exact State.setFreg_sound h _ _

@[simp] theorem State.loadFreg_mode (s : State) (n : Nat) (r : Reg) (v : Word) :
    (s.loadFreg n r v).fpu.mode = s.fpu.mode := by
  unfold State.loadFreg
  split <;> rfl

/-- The end of a floating-point load, its argument being the mode the FPU is in. -/
theorem State.loadDone_inv {s : State} (h : s.sound) {mode : FpuMode} (hm : s.fpu.mode = mode) : (s.loadDone mode).Inv := by
  unfold State.loadDone
  split
  · next he => exact (State.advance_sound (State.sequenceError_sound h (hm.trans he))).1
  · exact (State.advance_sound h).1

theorem State.loadSingleFp_inv {s : State} (h : s.sound) (asi : Byte) (a : Word) (rd : Reg) :
    (s.loadSingleFp asi a rd).Inv := by
  rcases s.loadSingleFp_cases asi a rd with ⟨-, e⟩ | ⟨-, s1, h1, e⟩ | ⟨-, s1, w, h1, e⟩ <;> rw [e]
  · exact State.takeTrap_inv h _
  · exact State.takeTrap_inv (State.keepOrConstant_sound (State.readWord_sound h h1) _ _) _
  · exact State.loadDone_inv (State.loadFreg_sound (State.readWord_sound h h1) _ _ _)
      (by rw [State.loadFreg_mode, State.readWord_fpu h1])

theorem State.loadDoubleFp_inv {s : State} (h : s.sound) (asi : Byte) (a : Word) (rd : Reg) :
    (s.loadDoubleFp asi a rd).Inv := by
  unfold State.loadDoubleFp
  split
  · split
    · next s1 h1 =>
      have hs1 := State.readWord_sound h h1
      exact State.takeTrap_inv (State.keepOrConstant_sound (State.keepOrConstant_sound hs1 _ _) _ _) _
    · next s1 w0 h1 =>
      have hs1 := State.readWord_sound h h1
      split
      · next s2 h2 =>
        have hs2 := State.readWord_sound hs1 h2
        have hs3 : (if s2.freeBool (.loadKept 2) then s2.setFreg (pairHigh rd) w0
            else s2.keepOrConstant 0 (pairHigh rd)).sound := by
          split
          · exact State.setFreg_sound hs2 _ _
          · exact State.keepOrConstant_sound hs2 _ _
        exact State.takeTrap_inv (State.keepOrConstant_sound hs3 _ _) _
      · next s2 w1 h2 =>
        have hs2 := State.readWord_sound hs1 h2
        exact State.loadDone_inv (State.loadFreg_sound (State.loadFreg_sound hs2 _ _ _) _ _ _)
          (by rw [State.loadFreg_mode, State.loadFreg_mode, State.readWord_fpu h2, State.readWord_fpu h1])
  · exact State.takeTrap_inv h _

theorem State.putLoadedFsr_inv {s : State} (h : s.sound) (w : Word) : (s.putLoadedFsr w).Inv := by
  rcases s.putLoadedFsr_cases w with e | ⟨-, e⟩ <;> rw [e]
  · have hf := State.setFsr_sound h (r := fsrLoad s.fpu.fsr w) h.1.fpu_consistent.2.2.2.1 rfl
    exact State.loadDone_inv hf rfl
  · exact State.loadDone_inv h rfl

theorem State.fpExceptionTrap_pending_inv {s : State} (h : s.sound) (hm : s.fpu.mode = .exceptionPending) :
    s.fpExceptionTrap.Inv :=
  State.fpExceptionTrap_inv h (h.1.fpu_consistent.2.1 (.inl hm))

theorem State.loadFsr_inv {s : State} (h : s.sound) (asi : Byte) (a : Word) : (s.loadFsr asi a).Inv := by
  rcases s.loadFsr_cases asi a with ⟨-, e⟩ | ⟨-, s1, h1, e⟩ | ⟨-, s1, w, h1, ⟨hm, e⟩ | e⟩ <;> rw [e]
  · exact State.takeTrap_inv h _
  · exact State.takeTrap_inv (State.readWord_sound h h1) _
  · exact State.fpExceptionTrap_pending_inv (State.holdWhile_sound (State.readWord_sound h h1) _) hm
  · exact State.putLoadedFsr_inv (State.holdWhile_sound (State.readWord_sound h h1) _) w

theorem State.storeFsr_inv {s : State} (h : s.sound) (asi : Byte) (a : Word) : (s.storeFsr asi a).Inv := by
  rcases s.storeFsr_cases asi a with ⟨-, e⟩ | ⟨-, e⟩ <;> rw [e]
  · exact State.takeTrap_inv h _
  · exact State.fpHold_inv h _ _ fun t ht => State.storeAccess_inv ht _ _ _ _ _

/-- The front entry removed: with the last one the FPU executes again (R545). -/
theorem State.dequeue_sound {s : State} (h : s.sound) {e : FqEntry} {rest : List FqEntry} (hq : s.fpu.queue = e :: rest) :
    (s.dequeue rest).sound := by
  obtain ⟨g1, -, -, g4, -⟩ := h.1.fpu_consistent
  have hlen : rest.length ≤ queueDepth s.cfg := by rw [hq] at g1; exact Nat.le_of_succ_le g1
  unfold State.dequeue
  split
  · next hm =>
    cases rest with
    | nil => refine State.fpu_sound h rfl ⟨?_, ?_, ?_, g4, ?_⟩ ?_ ?_ <;> simp
    | cons e' rest' => refine State.fpu_sound h rfl ⟨hlen, ?_, ?_, g4, ?_⟩ ?_ ?_ <;> simp [hm]
  · exact h

theorem State.storeQueue_inv {s : State} (h : s.sound) (asi : Byte) (a : Word) : (s.storeQueue asi a).Inv := by
  unfold State.storeQueue
  split
  · split
    · exact State.takeTrap_inv h _
    · next s1 h1 =>
      have hs1 := State.memoryWrite_sound h h1
      have hs2 : State.sound (match s1.fpu.queue with
          | [] => s1
          | _ :: rest => s1.dequeue rest) := by
        split
        · exact hs1
        · next hq => exact State.dequeue_sound hs1 hq
      dsimp only
      split
      · exact State.takeTrap_inv hs2 _
      · next s3 h3 => exact (State.advance_sound (State.memoryWrite_sound hs2 h3)).1
  · exact State.takeTrap_inv h _

/-! ### FPops -/

theorem State.onlyFpuChanged.cfg_eq {s t : State} (h : s.onlyFpuChanged t) : t.cfg = s.cfg := by
  unfold State.onlyFpuChanged at h
  rw [h]

theorem State.holdWhile_cfg {s : State} (h : s.sound) (wait : List FqEntry → Bool) : (s.holdWhile wait).cfg = s.cfg :=
  (State.fpuStepsWhile_cases wait s.fpu.queue.length s h.1.fpu_consistent.2.2.2.1).1.cfg_eq

/-- The wait for room in the queue ends with room, or the FPU has not stopped. -/
theorem State.mode_of_room {s : State} (h : s.sound) (hm : s.fpu.mode = .execute)
    (hroom : (s.holdWhile (fun q => decide (queueDepth s.cfg ≤ q.length))).fpu.queue.length < queueDepth s.cfg) :
    (s.holdWhile (fun q => decide (queueDepth s.cfg ≤ q.length))).fpu.mode = .execute := by
  obtain ⟨-, -, -, -, hmode | ⟨-, -, -, hwait⟩⟩ :=
    State.fpuStepsWhile_cases (fun q => decide (queueDepth s.cfg ≤ q.length)) s.fpu.queue.length s
      h.1.fpu_consistent.2.2.2.1
  · exact hmode.trans hm
  · exact absurd (of_decide_eq_true hwait) (Nat.not_le_of_lt hroom)

/-- The completion of a single entry, as the sequential FPU does it: the queue is empty, or the FPU has stopped at the
entry. -/
theorem State.completeSingle_sound {s : State} (h : s.sound) (hm : s.fpu.mode = .execute) (e : FqEntry) :
    (s.setQueue [e]).completeFront.sound := by
  obtain ⟨-, -, -, g4, -⟩ := h.1.fpu_consistent
  obtain ⟨c1, -, c3⟩ := State.completeFront_cases (s := s.setQueue [e]) (e := e) (rest := []) rfl
  have h0 : s.onlyFpuChanged (s.setQueue [e]) := rfl
  rcases c3 with ⟨hmode, hqueue, hftt⟩ | ⟨hmode, hqueue, hftt⟩
  · refine State.fpu_sound h (h0.trans c1) ⟨?_, ?_, ?_, hftt, ?_⟩ ?_ ?_ <;> simp [hmode, hqueue, queueDepth]
  · replace hmode : (s.setQueue [e]).completeFront.fpu.mode = .execute := hmode.trans hm
    refine State.fpu_sound h (h0.trans c1) ⟨?_, ?_, ?_, ?_, ?_⟩ ?_ ?_
    case refine_4 =>
      rcases hftt with e | e
      · rw [e]; exact g4
      · rw [e]; decide
    all_goals simp [hmode, hqueue]

/-- Acceptance of an FPop by an executing FPU with room in its queue. -/
theorem State.accept_sound {s : State} (h : s.sound) (hm : s.fpu.mode = .execute)
    (hroom : s.fpu.queue.length < queueDepth s.cfg) (e : FqEntry) : (s.accept e).sound := by
  obtain ⟨-, -, -, g4, g5⟩ := h.1.fpu_consistent
  unfold State.accept
  cases hc : s.cfg.fpuConcurrent with
  | true =>
    refine State.fpu_sound h rfl ⟨?_, ?_, ?_, g4, ?_⟩ ?_ ?_ <;> simp [hm, hc]
    exact hroom
  | false =>
    have hq := g5 hc hm
    have hsteps : (s.setQueue [e]).holdWhile (fun _ => true) = (s.setQueue [e]).completeFront := by
      simp [State.holdWhile, State.fpuStepsWhile, hm]
    simp only [hq, List.nil_append, hsteps]
    exact State.completeSingle_sound h hm e

theorem State.fpop_inv {s : State} (h : s.sound) (fn : FpFn) (rd rs1 rs2 : Reg) (word : Word) :
    (s.fpop fn rd rs1 rs2 word).Inv := by
  rcases s.fpop_cases fn rd rs1 rs2 word with
    ⟨-, e⟩ | ⟨-, hm, e⟩ | ⟨-, hm, e⟩ | ⟨-, hp, hx, s1, rfl, ⟨hfull, e⟩ | ⟨hroom, e⟩⟩ <;> rw [e]
  · exact State.takeTrap_inv h _
  · exact State.fpExceptionTrap_pending_inv h hm
  · exact (State.advance_sound (State.sequenceError_sound h hm)).1
  · refine State.fpExceptionTrap_inv (State.holdWhile_sound h _) fun hnil => ?_
    rw [hnil] at hfull
    exact absurd hfull (by simp [queueDepth])
  · have hm : s.fpu.mode = .execute := h.fpu_mode.resolve_right fun hm => hm.elim hp hx
    have hs1 := State.holdWhile_sound h (fun q => decide (queueDepth s.cfg ≤ q.length))
    exact (State.advance_sound
      (State.accept_sound hs1 (State.mode_of_room h hm hroom) (by rwa [State.holdWhile_cfg h]) _)).1

/-! ### The coprocessor -/

theorem State.cpGuard_inv {s : State} (h : s.sound) {body : State → State} (hb : (body s).Inv) : (s.cpGuard body).Inv := by
  rcases s.cpGuard_cases body with ⟨-, e⟩ | ⟨-, -, e⟩ | ⟨-, -, e⟩ <;> rw [e]
  · exact State.takeTrap_inv h _
  · exact State.takeTrap_inv (State.setCp_sound h _) _
  · exact hb

theorem State.loadCp_inv {s : State} (h : s.sound) (asi : Byte) (a : Word) {put : State → Word → State}
    (hp : ∀ t w, State.sound t → (put t w).sound) : (s.loadCp asi a put).Inv := by
  rcases s.loadCp_cases asi a put with ⟨-, e⟩ | ⟨-, s1, h1, e⟩ | ⟨-, s1, w, h1, e⟩ <;> rw [e]
  · exact State.takeTrap_inv h _
  · exact State.takeTrap_inv (State.setCp_sound (State.readWord_sound h h1) _) _
  · exact (State.advance_sound (State.setCp_sound (hp s1 w (State.readWord_sound h h1)) _)).1

theorem State.loadDoubleCp_inv {s : State} (h : s.sound) (asi : Byte) (a : Word) (rd : Reg) :
    (s.loadDoubleCp asi a rd).Inv := by
  unfold State.loadDoubleCp
  split
  · split
    · next s1 h1 => exact State.takeTrap_inv (State.setCp_sound (State.readWord_sound h h1) _) _
    · next s1 w0 h1 =>
      have hs1 := State.readWord_sound h h1
      split
      · next s2 h2 =>
        have hs2 := State.setCp_sound (State.readWord_sound hs1 h2) (Config.cpLoadTrapped s2.cp)
        exact State.takeTrap_inv (State.setCreg_sound (State.setCreg_sound hs2 _ _) _ _) _
      · next s2 w1 h2 =>
        have hs2 := State.readWord_sound hs1 h2
        exact (State.advance_sound (State.setCp_sound (State.setCreg_sound (State.setCreg_sound hs2 _ _) _ _) _)).1
  · exact State.takeTrap_inv h _

theorem State.storeCp_inv {s : State} (h : s.sound) (asi : Byte) (a v : Word) : (s.storeCp asi a v).Inv := by
  refine State.store_inv h _ fun t ht => ?_
  obtain ⟨s1, h1, rfl⟩ := Option.map_eq_some_iff.1 ht
  exact State.setCp_sound (State.memoryWrite_sound h h1) _

/-- A store of two words after which the coprocessor's state is a new one. -/
theorem State.storeTwo_inv {s : State} (h : s.sound) (asi : Byte) (a v0 v1 : Word) {done : State → State}
    (hd : ∀ t, State.sound t → (done t).sound) :
    State.Inv (if aligned a 8 then
      match s.writeWord asi a v0 with
      | none => s.takeTrap .dataAccessException
      | some s1 =>
        match s1.writeWord asi (a + 4) v1 with
        | none => s1.takeTrap .dataAccessException
        | some s2 => (done s2).advance
    else s.takeTrap .memAddressNotAligned) := by
  split
  · split
    · exact State.takeTrap_inv h _
    · next s1 h1 =>
      have hs1 := State.memoryWrite_sound h h1
      split
      · exact State.takeTrap_inv hs1 _
      · next s2 h2 => exact (State.advance_sound (hd s2 (State.memoryWrite_sound hs1 h2))).1
  · exact State.takeTrap_inv h _

theorem State.storeDoubleCp_inv {s : State} (h : s.sound) (asi : Byte) (a v0 v1 : Word) :
    (s.storeDoubleCp asi a v0 v1).Inv :=
  State.storeTwo_inv h asi a v0 v1 (done := State.cpStored) fun _ ht => State.setCp_sound ht _

theorem State.storeCpQueue_inv {s : State} (h : s.sound) (asi : Byte) (a : Word) : (s.storeCpQueue asi a).Inv :=
  State.storeTwo_inv h asi a s.cp.cqAddr s.cp.cqInstr (done := fun t => t.setCp (Config.cpStoredQueue t.cp))
    fun _ ht => State.setCp_sound ht _

theorem State.cpop_inv {s : State} (h : s.sound) (word : Word) : (s.cpop word).Inv :=
  State.cpGuard_inv h (State.advance_sound (State.setCp_sound h _)).1

/-! ### Branches -/

theorem State.branchFcc_inv {s : State} (h : s.sound) (values : List (BitVec 2)) (annul : Bool) (disp : BitVec 22) :
    (s.branchFcc values annul disp).Inv :=
  State.fpGuard_inv h _ (State.fpHold_inv h _ _ fun _ ht => State.branch_inv ht _ _ _)

theorem State.branchCcc_inv {s : State} (h : s.sound) (values : List (BitVec 2)) (annul : Bool) (disp : BitVec 22) :
    (s.branchCcc values annul disp).Inv :=
  State.cpGuard_inv h (State.branch_inv h _ _ _)

end Sys2Proof.Machine

namespace Sys2Proof.Machine

/-! ### One instruction -/

/-- Every instruction, executed in a sound state, ends in a state that meets the invariant. The instructions stand in the
order of the opcode table, those that are one shared operation together. -/
theorem exec_inv {s : State} (h : s.sound) (i : Instr) : ∃ t, exec i s = .next t ∧ t.Inv := by
  cases i
  case ldsb | ldub => exact ⟨_, rfl, State.loadReg_inv h _ _ (State.readByte_sound h _ _)⟩
  case ldsh | lduh => exact ⟨_, rfl, State.loadReg_inv h _ _ (State.readHalf_sound h _ _)⟩
  case ld => exact ⟨_, rfl, State.loadReg_inv h _ _ (State.readWord_sound h rfl)⟩
  case ldd => exact ⟨_, rfl, State.loadDouble_inv h _ _ _⟩
  case ldsba | lduba =>
    exact ⟨_, rfl, State.privileged_inv h (State.loadReg_inv h _ _ (State.readByte_sound h _ _))⟩
  case ldsha | lduha =>
    exact ⟨_, rfl, State.privileged_inv h (State.loadReg_inv h _ _ (State.readHalf_sound h _ _))⟩
  case lda => exact ⟨_, rfl, State.privileged_inv h (State.loadReg_inv h _ _ (State.readWord_sound h rfl))⟩
  case ldda => exact ⟨_, rfl, State.privileged_inv h (State.loadDouble_inv h _ _ _)⟩
  case ldf =>
    exact ⟨_, rfl, State.fpGuard_inv h _ (State.fpHold_inv h _ _ fun _ ht => State.loadSingleFp_inv ht _ _ _)⟩
  case lddf =>
    exact ⟨_, rfl, State.fpGuard_inv h _ (State.fpHold_inv h _ _ fun _ ht => State.loadDoubleFp_inv ht _ _ _)⟩
  case ldfsr => exact ⟨_, rfl, State.fpGuard_inv h _ (State.loadFsr_inv h _ _)⟩
  case ldc =>
    exact ⟨_, rfl, State.cpGuard_inv h (State.loadCp_inv h _ _ fun _ _ ht => State.setCreg_sound ht _ _)⟩
  case lddc => exact ⟨_, rfl, State.cpGuard_inv h (State.loadDoubleCp_inv h _ _ _)⟩
  case ldcsr => exact ⟨_, rfl, State.cpGuard_inv h (State.loadCp_inv h _ _ fun _ _ ht => State.setCsr_sound ht _)⟩
  case stb | sth | st => exact ⟨_, rfl, State.storeAccess_inv h _ _ _ _ _⟩
  case std => exact ⟨_, rfl, State.storePair_inv h _ _ _ _⟩
  case stba | stha | sta => exact ⟨_, rfl, State.privileged_inv h (State.storeAccess_inv h _ _ _ _ _)⟩
  case stda => exact ⟨_, rfl, State.privileged_inv h (State.storePair_inv h _ _ _ _)⟩
  case stf =>
    exact ⟨_, rfl, State.fpGuard_inv h _ (State.fpHold_inv h _ _ fun _ ht => State.storeAccess_inv ht _ _ _ _ _)⟩
  case stdf =>
    exact ⟨_, rfl, State.fpGuard_inv h _ (State.fpHold_inv h _ _ fun _ ht => State.storePair_inv ht _ _ _ _)⟩
  case stfsr => exact ⟨_, rfl, State.fpGuard_inv h _ (State.storeFsr_inv h _ _)⟩
  case stdfq => exact ⟨_, rfl, State.privileged_inv h (State.fpGuard_inv h _ (State.storeQueue_inv h _ _))⟩
  case stc | stcsr => exact ⟨_, rfl, State.cpGuard_inv h (State.storeCp_inv h _ _ _)⟩
  case stdc => exact ⟨_, rfl, State.cpGuard_inv h (State.storeDoubleCp_inv h _ _ _ _)⟩
  case stdcq => exact ⟨_, rfl, State.privileged_inv h (State.cpGuard_inv h (State.storeCpQueue_inv h _ _))⟩
  case ldstub => exact ⟨_, rfl, State.loadStoreByte_inv h _ _ _⟩
  case ldstuba => exact ⟨_, rfl, State.privileged_inv h (State.loadStoreByte_inv h _ _ _)⟩
  case swap => exact ⟨_, rfl, State.swapWord_inv h _ _ _⟩
  case swapa => exact ⟨_, rfl, State.privileged_inv h (State.swapWord_inv h _ _ _)⟩
  case add | addx | sub | subx | and | andn | or | orn | xor | xnor | sll | srl | sra | sethi | rdy =>
    exact ⟨_, rfl, State.setReg_advance_inv h _ _ _⟩
  case addcc | addxcc | taddcc | tsubcc | subcc | subxcc | andcc | andncc | orcc | orncc | xorcc | xnorcc =>
    exact ⟨_, rfl, State.writeFlagged_inv h _ _ _⟩
  case taddcctv | tsubcctv => exact ⟨_, rfl, State.ite_takeTrap_inv h _ _ (State.writeFlagged_inv h _ _ _)⟩
  case mulscc => exact ⟨_, rfl, State.writeFlagged_inv (State.putY_sound h _) _ _ _⟩
  case save => exact ⟨_, rfl, State.changeWindow_inv h (validWindow_below _ _) _ _ _⟩
  case restore => exact ⟨_, rfl, State.changeWindow_inv h (validWindow_above _ _) _ _ _⟩
  case be | ble | bl | bleu | bcs | bneg | bvs | bne | bg | bge | bgu | bcc | bpos | bvc =>
    exact ⟨_, rfl, State.branch_inv h _ _ _⟩
  case bn => exact ⟨_, rfl, State.branchNever_inv h _⟩
  case ba => exact ⟨_, rfl, State.branchAlways_inv h _ _⟩
  case fbne | fblg | fbul | fbl | fbug | fbg | fbu | fbe | fbue | fbge | fbuge | fble | fbule | fbo =>
    exact ⟨_, rfl, State.branchFcc_inv h _ _ _⟩
  case fbn =>
    exact ⟨_, rfl, State.fpGuard_inv h _ (State.fpHold_inv h _ _ fun _ ht => State.branchNever_inv ht _)⟩
  case fba =>
    exact ⟨_, rfl, State.fpGuard_inv h _ (State.fpHold_inv h _ _ fun _ ht => State.branchAlways_inv ht _ _)⟩
  case cb123 | cb12 | cb13 | cb1 | cb23 | cb2 | cb3 | cb0 | cb03 | cb02 | cb023 | cb01 | cb013 | cb012 =>
    exact ⟨_, rfl, State.branchCcc_inv h _ _ _⟩
  case cbn => exact ⟨_, rfl, State.cpGuard_inv h (State.branchNever_inv h _)⟩
  case cba => exact ⟨_, rfl, State.cpGuard_inv h (State.branchAlways_inv h _ _)⟩
  case call => exact ⟨_, rfl, State.call_inv h _⟩
  case jmpl => exact ⟨_, rfl, State.jump_inv h _ _⟩
  case rett => exact execRett_inv h _ _
  case tn | te | tle | tl | tleu | tcs | tneg | tvs | ta | tne | tg | tge | tgu | tcc | tpos | tvc =>
    exact ⟨_, rfl, State.trapOn_inv h _ _ _⟩
  case rdpsr | rdwim | rdtbr => exact ⟨_, rfl, State.privileged_inv h (State.setReg_advance_inv h _ _ _)⟩
  case wry => exact ⟨_, rfl, State.putDelayed_advance_inv h _ (by decide) (by decide)⟩
  case wrpsr => exact execWrpsr_inv h _ _
  case wrwim => exact ⟨_, rfl, State.privileged_inv h (State.putWim_advance_inv h _)⟩
  case wrtbr =>
    exact ⟨_, rfl, State.privileged_inv h (State.putDelayed_advance_inv h _ (by decide) (by decide))⟩
  case unimp => exact ⟨_, rfl, State.takeTrap_inv h _⟩
  case iflush => exact execIflush_inv h _ _
  case cpop1 | cpop2 => exact ⟨_, rfl, State.cpop_inv h _⟩
  all_goals exact ⟨_, rfl, State.fpop_inv h _ _ _ _ _⟩

/-! ### One step -/

theorem State.notAnInstruction_inv {s : State} (h : s.sound) (e : DecodeError) (w : Word) :
    (s.notAnInstruction e w).Inv := by
  cases e
  case unassignedFpop => exact State.fpop_inv (State.executing_sound h _) _ _ _ _ _
  all_goals exact State.takeTrap_inv (State.executing_sound h _) _

theorem State.executeWord_inv {s : State} (h : s.sound) (w : Word) : ∃ t, s.executeWord w = .next t ∧ t.Inv := by
  unfold State.executeWord
  split
  · split
    · exact ⟨_, rfl, State.takeTrap_inv (State.executing_sound h _) _⟩
    · exact exec_inv (State.executing_sound h _) _
  · exact ⟨_, rfl, State.notAnInstruction_inv h _ w⟩

theorem State.executeCycle_inv {s : State} (h : s.sound) : ∃ t, s.executeCycle = .next t ∧ t.Inv := by
  have hf := State.fetch_sound h
  unfold State.executeCycle
  split
  · exact ⟨_, rfl, State.enterReset_inv h.1⟩
  split
  · exact ⟨_, rfl, (State.trapEntry_sound h _).1⟩
  split
  · exact ⟨_, rfl, (State.skip_sound h).1⟩
  split
  · next s1 e => exact ⟨_, rfl, State.takeTrap_inv (by rwa [e] at hf) _⟩
  · next s1 w e => exact State.executeWord_inv (by rwa [e] at hf) w

theorem State.errorCycle_inv {s : State} (h : s.Inv) : s.errorCycle.Inv := by
  unfold State.errorCycle
  split
  · exact State.enterReset_inv h
  split
  · exact State.resetTrap_inv h
  · exact h

theorem State.resetCycle_inv {s : State} (h : s.Inv) : s.resetCycle.Inv := by
  unfold State.resetCycle
  split
  · exact h
  · exact State.resetTrap_inv h

/-- Aged delayed writes are still valid: each is one of those before, seen for one instruction less. -/
theorem ageFlight_valid {cfg : Params} {l : List InFlight} (h : ∀ p ∈ l, p.valid cfg) : ∀ p ∈ ageFlight l, p.valid cfg := by
  intro p hp
  obtain ⟨q, hq, hfield, hold, hleft⟩ := mem_ageFlight hp
  obtain ⟨hl, hc, hw⟩ := h q hq
  unfold InFlight.valid
  rw [hfield, hold]
  exact ⟨by omega, hc, hw⟩

theorem State.runFpu_sound {s : State} (h : s.sound) : s.runFpu.sound := by
  unfold State.runFpu
  split
  · split
    · exact h
    · apply State.fpuStepsWhile_sound
      exact ⟨State.inv_congr h.1 rfl rfl rfl rfl rfl rfl rfl rfl rfl rfl, h.2⟩
  · exact h

theorem State.runCp_sound {s : State} (h : s.sound) : s.runCp.sound := by
  rcases s.runCp_cases with e | ⟨-, -, -, e⟩ <;> rw [e]
  · exact h
  · exact State.setCp_sound h _

theorem State.aged_sound {s : State} (h : s.sound) : State.sound { s with flight := ageFlight s.flight } := by
  obtain ⟨⟨hmem, hpc, hnpc, hcwp, hwim, hflight, hrest⟩, hiu⟩ := h
  exact ⟨⟨hmem, hpc, hnpc, hcwp, hwim, ageFlight_valid hflight, hrest⟩, hiu⟩

theorem State.sampled_inv {s : State} (h : s.Inv) : State.Inv { s with tick := s.tick + 1 }.sampleInputs := by
  unfold State.sampleInputs
  split <;> exact State.inv_congr h rfl rfl rfl rfl rfl rfl rfl rfl rfl rfl

theorem State.beginStep_inv {s : State} (h : s.Inv) : s.beginStep.Inv := by
  have hs := State.sampled_inv h
  unfold State.beginStep
  dsimp only
  split
  · next hi => exact (State.runCp_sound (State.aged_sound (State.runFpu_sound ⟨hs, hi⟩))).1
  · exact hs

theorem step_inv {s : State} (h : s.Inv) : ∃ t, step s = .next t ∧ t.Inv := by
  have hb := State.beginStep_inv h
  unfold step
  dsimp only
  split
  · next hi => exact State.executeCycle_inv ⟨hb, hi⟩
  · exact ⟨_, rfl, State.errorCycle_inv hb⟩
  · exact ⟨_, rfl, State.resetCycle_inv hb⟩

/-- Settles O14: every part of a step keeps the invariant, from what it begins with (`State.beginStep_inv`) over each
instruction (`exec_inv`) to the cycles of error_mode and reset_mode. -/
theorem stepKeepsInvariant : Obligations.StepKeepsInvariant := by
  unfold Obligations.StepKeepsInvariant
  intro s t h hstep
  obtain ⟨t', ht', hinv⟩ := step_inv h
  cases hstep.symm.trans ht'
  exact hinv

end Sys2Proof.Machine

/-! ## Registers and rounding (O18, O17, O54) -/

namespace Sys2Proof.Machine

/-- Settles O18, from the two lemmas about r[0]. -/
theorem registerZeroReadsZero : Obligations.RegisterZeroReadsZero := by
  unfold Obligations.RegisterZeroReadsZero
  exact fun s w v => ⟨State.regIn_zero s w, State.setRegIn_zero s w v⟩

/-! ### Windows -/

/-- The cells of the windows lie in a circle: going a window up is 16 cells up (R33). -/
theorem mod_mul_window_succ (N w k : Nat) :
    (k + 16 * ((w + 1) % N)) % (16 * N) = (k + 16 + 16 * w) % (16 * N) := by
  have hw : 16 * ((w + 1) % N) = (16 * (w + 1)) % (16 * N) := (Nat.mul_mod_mul_left 16 (w + 1) N).symm
  rw [hw, Nat.add_mod_mod]
  congr 1
  omega

/-- Going a window down, and 16 cells up there, comes back. -/
theorem mod_mul_window_pred (N w k : Nat) (hN : 0 < N) :
    (k + 16 + 16 * ((w + N - 1) % N)) % (16 * N) = (k + 16 * w) % (16 * N) := by
  have hw : 16 * ((w + N - 1) % N) = (16 * (w + N - 1)) % (16 * N) := (Nat.mul_mod_mul_left 16 (w + N - 1) N).symm
  rw [hw, Nat.add_mod_mod, show k + 16 + 16 * (w + N - 1) = k + 16 * w + 16 * N by omega, Nat.add_mod_right]

theorem nwindows_pos (cfg : Params) : 0 < nwindows cfg := by unfold nwindows; omega
theorem nwindows_le (cfg : Params) : nwindows cfg ≤ 32 := by unfold nwindows; omega

/-- A number reduced below NWINDOWS fits a window number. -/
theorem toNat_ofNat_mod_nwindows (cfg : Params) (n : Nat) :
    (BitVec.ofNat 5 (n % nwindows cfg)).toNat = n % nwindows cfg := by
  have hlt := Nat.mod_lt n (nwindows_pos cfg)
  have hle := nwindows_le cfg
  rw [BitVec.toNat_ofNat, Nat.mod_eq_of_lt]
  omega

theorem windowCell_above (cfg : Params) (w : BitVec 5) {n : Reg} (hn : 24 ≤ n.toNat) :
    windowCell cfg w n = windowCell cfg (BitVec.ofNat 5 ((w.toNat + 1) % nwindows cfg)) (n - 16) := by
  have hsub : (n - 16).toNat = n.toNat - 16 := by bv_omega
  apply Fin.ext
  simp only [windowCell, toNat_ofNat_mod_nwindows, hsub]
  rw [mod_mul_window_succ]
  congr 2
  omega

theorem windowCell_below (cfg : Params) (w : BitVec 5) {n : Reg} (h8 : 8 ≤ n.toNat) (h16 : n.toNat < 16) :
    windowCell cfg w n = windowCell cfg (BitVec.ofNat 5 ((w.toNat + nwindows cfg - 1) % nwindows cfg)) (n + 16) := by
  have hadd : (n + 16).toNat = n.toNat - 8 + 24 := by bv_omega
  apply Fin.ext
  simp only [windowCell, toNat_ofNat_mod_nwindows, hadd]
  exact (mod_mul_window_pred _ _ (n.toNat - 8) (nwindows_pos cfg)).symm

/-- Two windowed registers in one cell read the same. -/
theorem State.regIn_eq_of_cell {s : State} {w w' : BitVec 5} {n n' : Reg} (hn : 8 ≤ n.toNat) (hn' : 8 ≤ n'.toNat)
    (hcell : windowCell s.cfg w n = windowCell s.cfg w' n') : s.regIn w n = s.regIn w' n' := by
  rw [State.regIn_window (Nat.not_lt_of_le hn), State.regIn_window (Nat.not_lt_of_le hn'), hcell]

theorem State.regIn_global_any {s : State} {n : Reg} (hn : n.toNat < 8) (w w' : BitVec 5) : s.regIn w n = s.regIn w' n := by
  simp [State.regIn, hn]

/-- Settles O17: the overlap is that of the cells. -/
theorem windowsOverlap : Obligations.WindowsOverlap := by
  unfold Obligations.WindowsOverlap
  intro s w n _
  refine ⟨fun hn => ?_, fun h8 h16 => ?_, fun hn w' => State.regIn_global_any hn w w'⟩
  · exact State.regIn_eq_of_cell (by omega) (by bv_omega) (windowCell_above s.cfg w hn)
  · exact State.regIn_eq_of_cell h8 (by bv_omega) (windowCell_below s.cfg w h8 h16)

/-! ### Rounding -/

/-- Rounding goes up: m counts the multiples of the unit below, r is what is left of it (R61). -/
def roundsUp (rd : BitVec 2) (neg : Bool) (m r unit : Nat) : Prop :=
  (rd = 0 ∧ (unit < 2 * r ∨ (2 * r = unit ∧ m % 2 = 1))) ∨ (rd = 2 ∧ neg = false ∧ r ≠ 0) ∨ (rd = 3 ∧ neg = true ∧ r ≠ 0)

/-- The result is the multiple above, where rounding goes up, or the one below. -/
theorem roundShift_fst (rd : BitVec 2) (neg : Bool) (m n : Nat) :
    (roundsUp rd neg (m / 2 ^ n) (m % 2 ^ n) (2 ^ n) ∧ (roundShift rd neg m n).1 = m / 2 ^ n + 1) ∨
      (¬ roundsUp rd neg (m / 2 ^ n) (m % 2 ^ n) (2 ^ n) ∧ (roundShift rd neg m n).1 = m / 2 ^ n) := by
  have hrd : rd = 0#2 ∨ rd = 1#2 ∨ rd = 2#2 ∨ rd = 3#2 := by revert rd; decide
  rcases hrd with rfl | rfl | rfl | rfl
  · by_cases hup : roundsUp 0#2 neg (m / 2 ^ n) (m % 2 ^ n) (2 ^ n)
    · exact .inl ⟨hup, by simp_all [roundsUp, roundShift]⟩
    · exact .inr ⟨hup, by simp_all [roundsUp, roundShift]⟩
  all_goals cases neg <;> by_cases hr : m % 2 ^ n = 0 <;> simp [roundsUp, roundShift, hr]

theorem roundShift_inexact (rd : BitVec 2) (neg : Bool) (m n : Nat) :
    (roundShift rd neg m n).2 = true ↔ m % 2 ^ n ≠ 0 := by
  simp [roundShift]

/-- Settles O54: with the multiple below and what is left of it named, each direction is linear arithmetic on whether
rounding goes up. -/
theorem roundingDirections : Obligations.RoundingDirections := by
  unfold Obligations.RoundingDirections
  intro rd neg m n
  have hunit : 0 < 2 ^ n := Nat.two_pow_pos n
  have hsplit : m / 2 ^ n * 2 ^ n + m % 2 ^ n = m := Nat.div_add_mod' m (2 ^ n)
  have hleft : m % 2 ^ n < 2 ^ n := Nat.mod_lt m hunit
  have hcases := roundShift_fst rd neg m n
  refine ⟨?_, ?_, ?_, roundShift_inexact rd neg m n⟩
  all_goals
    generalize (roundShift rd neg m n).1 = q at hcases
    generalize m / 2 ^ n = below at hcases hsplit
    generalize m % 2 ^ n = left at hcases hsplit hleft
    generalize 2 ^ n = unit at hcases hsplit hleft hunit
    intro hd
    rcases hcases with ⟨hup, rfl⟩ | ⟨hup, rfl⟩
  case refine_1.inl =>
    subst hd
    simp [roundsUp, Nat.succ_mul] at hup ⊢
    omega
  case refine_1.inr =>
    subst hd
    simp [roundsUp] at hup ⊢
    omega
  case refine_2.inl => rcases hd with rfl | ⟨rfl, rfl⟩ | ⟨rfl, rfl⟩ <;> simp [roundsUp] at hup
  case refine_2.inr => omega
  case refine_3.inl => rw [Nat.succ_mul]; rcases hd with ⟨rfl, rfl⟩ | ⟨rfl, rfl⟩ <;> simp [roundsUp] at hup <;> omega
  case refine_3.inr => rcases hd with ⟨rfl, rfl⟩ | ⟨rfl, rfl⟩ <;> simp [roundsUp] at hup <;> omega

end Sys2Proof.Machine

namespace Sys2Proof

/-! ## Decoding what encode writes -/

theorem clearLow_of_even {r : Reg} (h : evenReg r = true) : clearLow r = r := by
  revert r; decide

/-! ### Families of rows: a word of the family is decoded by one more field -/

theorem decodeWord_formBicc (annul : Bool) (cond : BitVec 4) (disp : BitVec 22) :
    decodeWord (formBranch annul cond 0b010#3 disp) = .ok (decodeBicc (formBranch annul cond 0b010#3 disp)) := by
  simp [decodeWord, decodeFormat2]

theorem decodeWord_formFBfcc (annul : Bool) (cond : BitVec 4) (disp : BitVec 22) :
    decodeWord (formBranch annul cond 0b110#3 disp) = .ok (decodeFBfcc (formBranch annul cond 0b110#3 disp)) := by
  simp [decodeWord, decodeFormat2]

theorem decodeWord_formCBccc (annul : Bool) (cond : BitVec 4) (disp : BitVec 22) :
    decodeWord (formBranch annul cond 0b111#3 disp) = .ok (decodeCBccc (formBranch annul cond 0b111#3 disp)) := by
  simp [decodeWord, decodeFormat2]

theorem decodeWord_formTicc (rd rs1 : Reg) (src : Operand2) :
    decodeWord (formOperand 0b10#2 rd 0b111010#6 rs1 src) =
      .ok (decodeTicc (formOperand 0b10#2 rd 0b111010#6 rs1 src)) := by
  simp [decodeWord, decodeArith]

theorem decodeWord_formFPop1 (rd rs1 : Reg) (opf : BitVec 9) (rs2 : Reg) :
    decodeWord (formOpf rd 0b110100#6 rs1 opf rs2) = decodeFPop1 (formOpf rd 0b110100#6 rs1 opf rs2) := by
  simp [decodeWord, decodeArith]

theorem decodeWord_formFPop2 (rd rs1 : Reg) (opf : BitVec 9) (rs2 : Reg) :
    decodeWord (formOpf rd 0b110101#6 rs1 opf rs2) = decodeFPop2 (formOpf rd 0b110101#6 rs1 opf rs2) := by
  simp [decodeWord, decodeArith]

/-- An FPop's word decodes to it: op and op3 name FPop1 or FPop2, and opf the operation. -/
theorem decodeWord_encode_of_fpopOf {i : Instr} {fn : FpFn} {rd rs1 rs2 : Reg} (hf : Machine.FpopOf i fn rd rs1 rs2) :
    decodeWord (encode i) = .ok i := by
  cases hf
  case fcmps | fcmpd | fcmpx | fcmpes | fcmped | fcmpex => simp [encode, decodeWord_formFPop2, decodeFPop2]
  all_goals simp [encode, decodeWord_formFPop1, decodeFPop1]

/-- Decoding undoes encoding, format by format: op, then op3 or op2, then cond or opf select the same row in both. -/
theorem decodeWord_encode {i : Instr} (h : i.WellFormed) : decodeWord (encode i) = .ok i := by
  cases i
  case ldd | lddf | lddc | std | stdf | stdc => simp [encode, decodeWord, decodeMemory, clearLow_of_even h]
  case ldda | stda => simp [encode, decodeWord, decodeMemory, alternateForm, clearLow_of_even h]
  case ldsba | ldsha | lduba | lduha | lda | stba | stha | sta | ldstuba | swapa =>
    simp [encode, decodeWord, decodeMemory, alternateForm]
  case ldsb | ldsh | ldub | lduh | ld | ldf | ldfsr | ldc | ldcsr | stb | sth | st | stf | stfsr | stdfq | stc | stcsr |
      stdcq | ldstub | swap =>
    simp [encode, decodeWord, decodeMemory]
  case unimp | sethi => simp [encode, decodeWord, decodeFormat2]
  case call => simp [encode, decodeWord]
  case bn | be | ble | bl | bleu | bcs | bneg | bvs | ba | bne | bg | bge | bgu | bcc | bpos | bvc =>
    simp [encode, decodeWord_formBicc, decodeBicc]
  case fbn | fbne | fblg | fbul | fbl | fbug | fbg | fbu | fba | fbe | fbue | fbge | fbuge | fble | fbule | fbo =>
    simp [encode, decodeWord_formFBfcc, decodeFBfcc]
  case cbn | cb123 | cb12 | cb13 | cb1 | cb23 | cb2 | cb3 | cba | cb0 | cb03 | cb02 | cb023 | cb01 | cb013 | cb012 =>
    simp [encode, decodeWord_formCBccc, decodeCBccc]
  case tn | te | tle | tl | tleu | tcs | tneg | tvs | ta | tne | tg | tge | tgu | tcc | tpos | tvc =>
    simp [encode, decodeWord_formTicc, decodeTicc]
  case add | addcc | addx | addxcc | taddcc | taddcctv | tsubcc | tsubcctv | sub | subcc | subx | subxcc | mulscc | and |
      andcc | andn | andncc | or | orcc | orn | orncc | xor | xorcc | xnor | xnorcc | sll | srl | sra | save | restore |
      jmpl | rett | rdy | rdpsr | rdwim | rdtbr | wry | wrpsr | wrwim | wrtbr | iflush | cpop1 | cpop2 =>
    simp [encode, decodeWord, decodeArith]
  all_goals exact decodeWord_encode_of_fpopOf (by constructor)

end Sys2Proof

/-! ## The instruction cycle (O4, O5, O8, O9) -/

namespace Sys2Proof.Machine

/-- In execute_mode a step is a cycle of it, after what every step begins with. -/
theorem step_of_execute {s : State} (h : s.beginStep.iu = .execute) : step s = s.beginStep.executeCycle := by
  simp [step, h]

theorem State.fetchAsi_quiet {s : State} (hq : s.quiet) (ho : s.fetchOpen = false) :
    s.fetchAsi = if s.psr.s then 9 else 8 := by
  simp [State.fetchAsi, ho, State.seeS_quiet hq]

/-- With level 0 no interrupt is recognised. -/
theorem State.interrupted_irl_zero {s : State} (h : s.inputs.irl = 0) : s.interrupted = false := by
  simp [State.interrupted, h]

theorem State.interrupted_annul {s : State} (h : s.annul = true) : s.interrupted = false := by
  simp [State.interrupted, h]

/-- A fetch from storage with no stale word of the key is memory's word. -/
theorem State.fetchKey_fresh {s : State} {k : Nat} (h : ∀ e ∈ s.stale, e.key ≠ k) : s.fetchKey k = Memory.word s.mem k := by
  have hnil : s.stale.filter (fun e => e.key == k) = [] := by
    rw [List.filter_eq_nil_iff]
    intro e he
    simpa using h e he
  simp [State.fetchKey, hnil]

theorem State.fetch_located {s : State} {k : Nat} (hl : s.locate .fetch s.fetchAsi s.pc = some k)
    (hfresh : ∀ e ∈ s.stale, e.key ≠ k) : s.fetch = (s, some (Memory.word s.mem k)) := by
  simp [State.fetch, State.not_onDevice hl, hl, State.fetchKey_fresh hfresh]

theorem State.fetch_refused {s : State} (h : s.refusedAt .fetch s.fetchAsi s.pc) : s.fetch = (s, none) := by
  obtain ⟨hd, hl⟩ := h
  simp [State.fetch, hd, hl]

/-- A cycle in which nothing comes before the instruction: it is the word fetched, executed. -/
theorem State.executeCycle_fetched {s s1 : State} {w : Word} (hi : s.inputs = ⟨0, false⟩) (ha : s.annul = false)
    (hf : s.fetch = (s1, some w)) : s.executeCycle = s1.executeWord w := by
  simp [State.executeCycle, hi, State.interrupted_irl_zero, ha, hf]

theorem State.executeCycle_refused {s s1 : State} (hi : s.inputs = ⟨0, false⟩) (ha : s.annul = false)
    (hf : s.fetch = (s1, none)) : s.executeCycle = .next (s1.takeTrap .instructionAccessException) := by
  simp [State.executeCycle, hi, State.interrupted_irl_zero, ha, hf]

theorem State.executeCycle_annulled {s : State} (hr : s.inputs.resetIn = false) (ha : s.annul = true) :
    s.executeCycle = .next s.skip := by
  simp [State.executeCycle, hr, State.interrupted_annul ha, ha]

theorem State.executeWord_ok {s : State} {w : Word} {i : Instr} (hd : decodeWord w = .ok i)
    (hl : leavesOut s.cfg w = false) : s.executeWord w = exec i (s.executing (kindOf i)) := by
  simp [State.executeWord, hd, hl]

theorem State.executeWord_leftOut {s : State} {w : Word} {i : Instr} (hd : decodeWord w = .ok i)
    (hl : leavesOut s.cfg w = true) :
    s.executeWord w = .next ((s.executing Kind.plain).takeTrap .illegalInstruction) := by
  simp [State.executeWord, hd, hl]

theorem State.executeWord_error {s : State} {w : Word} {e : DecodeError} (hd : decodeWord w = .error e) :
    s.executeWord w = .next (s.notAnInstruction e w) := by
  simp [State.executeWord, hd]

/-- The state with the next draw of free values. -/
def State.ticked (s : State) : State := { s with tick := s.tick + 1 }

/-- With no coming inputs and no steps of the FPU scheduled, a step in execute_mode begins with a new draw, one more
instruction for the delayed writes in flight and the coprocessor's own step. -/
theorem State.beginStep_unscheduled {s : State} (hi : s.iu = .execute) (hc : s.coming = []) (hf : s.fpuSteps = []) :
    s.beginStep = { s.ticked with flight := ageFlight s.flight }.runCp := by
  simp [State.beginStep, State.sampleInputs, State.runFpu, State.ticked, hi, hc, hf]

/-! ### The instruction at PC -/

/-- Settles O4: the step begins with a new draw only, fetches the word at PC and decodes it to the instruction it encodes. -/
theorem stepRunsFetchedInstruction : Obligations.StepRunsFetchedInstruction := by
  unfold Obligations.StepRunsFetchedInstruction
  intro s i k hiu hin hc hq ha ho hst hu hlo hwf hk hw
  have hb : s.beginStep = s.ticked := State.beginStep_quiet hiu hc hq hu
  have hasi : s.ticked.fetchAsi = if s.psr.s then 9 else 8 := State.fetchAsi_quiet (s := s.ticked) hq ho
  have hf : s.ticked.fetch = (s.ticked, some (encode i)) := by
    rw [← hw]
    exact State.fetch_located (by rw [hasi]; exact hk) (by simp [State.ticked, hst])
  rw [step_of_execute (by rw [hb]; exact hiu), hb, State.executeCycle_fetched (s := s.ticked) hin ha hf,
    State.executeWord_ok (s := s.ticked) (decodeWord_encode hwf) hlo]
  simp [State.executing, State.ticked, ho]

/-! ### The skip of an annulled instruction -/

/-- With no device at PC the fetch leaves the state as it is. -/
theorem State.fetch_state {s : State} (h8 : s.onDevice 8 s.pc = false) (h9 : s.onDevice 9 s.pc = false) :
    s.fetch.1 = s := by
  have hd : s.onDevice s.fetchAsi s.pc = false := by
    have hasi : s.fetchAsi = 8 ∨ s.fetchAsi = 9 := by
      unfold State.fetchAsi
      split <;> split <;> simp
    rcases hasi with e | e <;> rw [e]
    · exact h8
    · exact h9
  simp [State.fetch, hd]

theorem State.skip_eq {s : State} (hs : s.fetch.1 = s) :
    s.skip = { s with pc := s.skip.pc, npc := s.skip.npc, annul := false, fetchOpen := false,
                      prev := { s.prev with conditional := false, jmpl := false } } := by
  simp [State.skip, hs]

/-- Where no conditional branch came directly before, the skip goes on to the next instruction. -/
theorem State.skip_advanced {s : State} (hc : s.prev.conditional = false) : Advanced s s.skip := by
  simp [Advanced, State.skip, State.annulledCouple, hc]

/-- Settles O8: nothing comes before the skip, and the skip changes what `State.skip_eq` names. -/
theorem annulledInstructionIsSkipped : Obligations.AnnulledInstructionIsSkipped := by
  unfold Obligations.AnnulledInstructionIsSkipped
  intro s hiu hr hc hq ha hu h8 h9
  have hb : s.beginStep = s.ticked := State.beginStep_quiet hiu hc hq hu
  have hs : s.ticked.fetch.1 = s.ticked := State.fetch_state h8 h9
  have he := State.skip_eq hs
  refine ⟨s.ticked.skip, ?_, fun hp => State.skip_advanced (s := s.ticked) hp, ?_, ?_, ?_⟩
  · rw [step_of_execute (by rw [hb]; exact hiu), hb, State.executeCycle_annulled (s := s.ticked) hr ha]
  · intro w n
    apply State.regIn_congr <;> rw [he] <;> rfl
  · intro k
    rw [he]; rfl
  · rw [he]; rfl

/-! ### No instruction at PC -/

/-- A trap with traps enabled, no delayed write in flight and no reset ahead: its entry. -/
theorem takeTrap_entered {s : State} (hq : s.quiet) (he : s.psr.et = true) (hr : s.resetAhead = false) (t : Trap) :
    TrapEntered s (s.takeTrap t) (trapType t) := by
  obtain ⟨t', ht', hentered⟩ := traps_of_quiet hq he t
  cases ht'
  rwa [hr] at hentered

/-- Every word that is no instruction but an FPop with an unassigned opf raises illegal_instruction (R423). -/
theorem State.notAnInstruction_illegal (s : State) {e : DecodeError} (he : e ≠ .unassignedFpop) (w : Word) :
    s.notAnInstruction e w = (s.executing Kind.plain).takeTrap .illegalInstruction := by
  cases e
  case unassignedFpop => exact absurd rfl he
  all_goals rfl

/-- The FPU stops at an FPop with an unassigned opf (R439). -/
theorem State.completeFront_unassigned (s : State) {e : FqEntry} (he : e.fn = .unassigned) :
    (s.setQueue [e]).completeFront = ((s.setQueue [e]).ticked).fpStop 3 (s.freeBits .cexcBits 5) := by
  simp [State.completeFront, State.ticked, State.setQueue, he, fpAnswer, State.freeBits]

/-- An FPop with an unassigned opf, the FPU ready and sequential. -/
theorem State.fpop_unassigned {s : State} (h : s.fpReady) (hc : s.cfg.fpuConcurrent = false) (rd rs1 rs2 : Reg) (w : Word) :
    Advanced s (s.fpop .unassigned rd rs1 rs2 w) ∧ RegsKept s (s.fpop .unassigned rd rs1 rs2 w) ∧
      MemKept s (s.fpop .unassigned rd rs1 rs2 w) ∧ OnlyFpu s (s.fpop .unassigned rd rs1 rs2 w) ∧
      FpStopped s (s.fpop .unassigned rd rs1 rs2 w) 3 ⟨s.pc, w, .unassigned, rd, rs1, rs2⟩ := by
  rw [State.fpop_ready h hc, State.completeFront_unassigned s rfl]
  have hfpu : s.onlyFpuChanged
      (((s.setQueue [⟨s.pc, w, .unassigned, rd, rs1, rs2⟩]).ticked).fpStop 3 (s.freeBits .cexcBits 5)) := rfl
  obtain ⟨hadv, hregs, hmem, honly⟩ := hfpu.advance
  exact ⟨hadv, hregs, hmem, honly, rfl, rfl, rfl, rfl, rfl, rfl, rfl, rfl, rfl, rfl, rfl⟩

/-- Settles O9: a refused fetch, a word that is no instruction, one left out, and an unassigned opf, each from the lemma
about it. -/
theorem noInstructionAtPc : Obligations.NoInstructionAtPc := by
  unfold Obligations.NoInstructionAtPc
  refine ⟨?_, ?_, ?_, ?_⟩
  · intro s hiu hin hc hq ha ho hu het href
    have hb : s.beginStep = s.ticked := State.beginStep_quiet hiu hc hq hu
    have hasi : s.ticked.fetchAsi = if s.psr.s then 9 else 8 := State.fetchAsi_quiet (s := s.ticked) hq ho
    have hf : s.ticked.fetch = (s.ticked, none) := State.fetch_refused (by rw [hasi]; exact href)
    have hreset : s.ticked.resetAhead = false := by simp [State.resetAhead, State.ticked, hc, hin]
    refine ⟨_, ?_, takeTrap_entered (s := s.ticked) hq het hreset .instructionAccessException⟩
    rw [step_of_execute (by rw [hb]; exact hiu), hb, State.executeCycle_refused (s := s.ticked) hin ha hf]
  · intro s w e hq het hd he
    rw [State.executeWord_error hd, State.notAnInstruction_illegal s he]
    exact traps_of_quiet (s := s.executing Kind.plain) hq het .illegalInstruction
  · intro s w i hq het hd hl
    rw [State.executeWord_leftOut hd hl]
    exact traps_of_quiet (s := s.executing Kind.plain) hq het .illegalInstruction
  · intro s w hready hc hd
    exact ⟨_, State.executeWord_error hd,
      State.fpop_unassigned (s := s.executing kindFpop) hready hc (fieldRd w) (fieldRs1 w) (fieldRs2 w) w⟩

end Sys2Proof.Machine

/-! ## Placing an instruction (O5) -/

namespace Sys2Proof.Machine

/-! ### Where the word lies -/

theorem wordOfBytes_byteOfWord (w : Word) :
    wordOfBytes (byteOfWord w 0) (byteOfWord w 1) (byteOfWord w 2) (byteOfWord w 3) = w := by
  apply BitVec.eq_of_toNat_eq
  have := w.isLt
  simp only [wordOfBytes, byteOfWord, toNat_append_add, toNat_extract]
  omega

/-- A word reads back where all four of its bytes were written. -/
theorem Memory.word_setMasked (m : List Host.Cell) (k : Nat) (w : Word) (h : Memory.wf m = true) :
    Memory.word (Memory.setMasked m k 0b1111#4 w) k = w := by
  have hbyte : ∀ j, j < 4 → Memory.get (Memory.setMasked m k 0b1111#4 w) (k + j) = byteOfWord w j := by
    intro j hj
    rw [Memory.get_setMasked _ _ _ _ _ h]
    have hcases : j = 0 ∨ j = 1 ∨ j = 2 ∨ j = 3 := by omega
    rcases hcases with rfl | rfl | rfl | rfl <;> simp
  unfold Memory.word
  rw [hbyte 1 (by omega), hbyte 2 (by omega), hbyte 3 (by omega)]
  rw [show Memory.get (Memory.setMasked m k 0b1111#4 w) k = byteOfWord w 0 from hbyte 0 (by omega)]
  exact wordOfBytes_byteOfWord w

/-- The space has a bank behind it once it is made fetchable. -/
theorem bankOf_fetchable (cfg : Params) (asi : Byte) (addr : Word) :
    ∃ b, bankOf (fetchable cfg asi addr) asi = some b := by
  unfold fetchable bankOf
  cases hb : (cfg.spaces.find? (fun p => p.1 == asi)).map (fun p => p.2) with
  | some b => exact ⟨b, by simp [hb]⟩
  | none => exact ⟨0, by simp⟩

/-- An address made fetchable is storage that answers a fetch. -/
theorem State.locate_fetchable {s : State} {cfg : Params} {asi : Byte} {addr : Word}
    (hd : s.cfg.devices = (fetchable cfg asi addr).devices) (hf : s.cfg.faults = (fetchable cfg asi addr).faults)
    (hs : s.cfg.spaces = (fetchable cfg asi addr).spaces) :
    s.locate .fetch asi addr = some (memoryKey ((bankOf s.cfg asi).getD 0) (wordAddress addr)) := by
  obtain ⟨b, hb⟩ := bankOf_fetchable cfg asi addr
  have hbank : bankOf s.cfg asi = some b := by rw [← hb]; unfold bankOf; rw [hs]
  have hdevice : s.onDevice asi addr = false := by simp [State.onDevice, hd, fetchable]
  have hfault : s.cfg.faults.any (fun r => faultsAt r .fetch asi (wordAddress addr)) = false := by
    simp [hf, fetchable]
  simp [State.locate, hdevice, hfault, hbank]

/-! ### The step after placing -/

/-- The space and the key that placeWord writes to. -/
def State.placedSpace (s : State) : Byte := if s.psr.s then 9 else 8
def State.placedKey (s : State) (w : Word) : Nat :=
  memoryKey ((bankOf (s.placeWord w).cfg s.placedSpace).getD 0) (wordAddress s.pc)

theorem State.placeWord_locate (s : State) (w : Word) :
    (s.placeWord w).locate .fetch s.placedSpace s.pc = some (s.placedKey w) :=
  State.locate_fetchable (cfg := s.cfg) rfl rfl rfl

theorem State.placeWord_word {s : State} (h : Memory.wf s.mem = true) (w : Word) :
    Memory.word (s.placeWord w).mem (s.placedKey w) = w :=
  Memory.word_setMasked s.mem (s.placedKey w) w h

theorem State.placeWord_fresh (s : State) (w : Word) : ∀ e ∈ (s.placeWord w).stale, e.key ≠ s.placedKey w := by
  intro e he
  have hkey := (List.mem_filter.1 (show e ∈ s.stale.filter (fun e => e.key != s.placedKey w) from he)).2
  simpa using hkey

theorem State.placeWord_implemented (s : State) (w : Word) : leavesOut (s.placeWord w).cfg w = false := by
  simp [leavesOut, State.placeWord]

theorem State.placeWord_beginStep (s : State) (w : Word) :
    (s.placeWord w).beginStep = { (s.placeWord w).ticked with flight := ageFlight (s.settled .s) }.runCp :=
  State.beginStep_unscheduled rfl rfl rfl

/-- No old value of S is in flight once S is settled and the rest is one instruction older. -/
theorem olds_ageFlight_settled {s t : State} (h : t.flight = ageFlight (s.settled .s)) : t.olds .s = [] := by
  unfold State.olds
  rw [List.map_eq_nil_iff, List.filter_eq_nil_iff, h]
  intro p hp
  obtain ⟨q, hq, hfield, -, -⟩ := mem_ageFlight hp
  have hne := (List.mem_filter.1 hq).2
  rw [hfield]
  simpa using hne

/-- What the step after placing begins with. -/
structure State.Placed (s : State) (w : Word) (t : State) : Prop where
  iu : t.iu = .execute
  inputs : t.inputs = ⟨0, false⟩
  annul : t.annul = false
  fetchOpen : t.fetchOpen = false
  pc : t.pc = s.pc
  psr : t.psr = s.psr
  cfg : t.cfg = (s.placeWord w).cfg
  mem : t.mem = (s.placeWord w).mem
  stale : t.stale = (s.placeWord w).stale
  flight : t.flight = ageFlight (s.settled .s)

theorem State.placeWord_placed (s : State) (w : Word) : s.Placed w (s.placeWord w).beginStep := by
  rw [s.placeWord_beginStep w]
  constructor <;> simp [State.ticked, State.placeWord]

theorem State.Placed.fetchAsi {s t : State} {w : Word} (h : s.Placed w t) : t.fetchAsi = s.placedSpace := by
  have holds : t.olds .s = [] := olds_ageFlight_settled h.flight
  simp [State.fetchAsi, h.fetchOpen, State.seeBool, State.see_of_olds holds, State.live, h.psr, wordOfBool_getElem,
    State.placedSpace]

/-- The step after placing a word fetches that word. -/
theorem State.Placed.fetch {s t : State} {w : Word} (h : s.Placed w t) (hwf : Memory.wf s.mem = true) :
    t.fetch = (t, some w) := by
  have hl : t.locate .fetch t.fetchAsi t.pc = some (s.placedKey w) := by
    rw [h.fetchAsi, h.pc, State.locate_congr h.cfg, s.placeWord_locate]
  rw [State.fetch_located hl (by rw [h.stale]; exact s.placeWord_fresh w), h.mem, State.placeWord_word hwf]

/-- Settles O5: nothing comes before the instruction placed, and the fetch finds its word. -/
theorem placedWordIsExecuted : Obligations.PlacedWordIsExecuted := by
  unfold Obligations.PlacedWordIsExecuted
  intro s w i hwf hw hd
  have hplace : s.withFetchWord 32 w = s.placeWord (BitVec.ofNat 32 w) := by
    unfold State.withFetchWord
    rw [Nat.mod_eq_of_lt hw]
  have h := s.placeWord_placed (BitVec.ofNat 32 w)
  rw [hplace, step_of_execute h.iu, State.executeCycle_fetched h.inputs h.annul (h.fetch hwf)]
  exact State.executeWord_ok hd (by rw [h.cfg]; exact s.placeWord_implemented _)

end Sys2Proof.Machine

/-! ## Loading and storing the FSR (O45) -/

namespace Sys2Proof.Machine

/-- The reserved bits of the FSR read 0 (R65). -/
theorem fsrWord_reserved (r : Fsr) {j : Nat} (hj : j = 12 ∨ (17 ≤ j ∧ j ≤ 21)) : (fsrWord r).getLsbD j = false := by
  have hcases : j = 12 ∨ j = 17 ∨ j = 18 ∨ j = 19 ∨ j = 20 ∨ j = 21 := by omega
  rcases hcases with rfl | rfl | rfl | rfl | rfl | rfl <;>
    · simp only [fsrWord, BitVec.getLsbD_append]
      simp

/-- LDFSR with the FPU ready and storage that answers: the FSR from the word, and the advance. -/
theorem State.loadFsr_located {s : State} (hm : s.fpu.mode = .execute) (hn : s.fpu.queue = []) {asi : Byte} {a : Word}
    {k : Nat} (ha : aligned a 4 = true) (hl : s.locate .read asi a = some k) :
    s.loadFsr asi a = (s.setFsr (fsrLoad s.fpu.fsr (Memory.word s.mem k))).advance := by
  have hr : s.readWord asi a = (s, some (Memory.word s.mem k)) := State.memoryRead_located hl _
  simp [State.loadFsr, ha, hr, State.holdWhile_nil hn, hm, State.putLoadedFsr, State.loadDone]

/-! ### A store of one word -/

/-- A located word lies at a key divisible by four. -/
theorem State.locate_mod_four {s : State} {acc : Access} {asi : Byte} {a : Word} {k : Nat}
    (h : s.locate acc asi a = some k) : k % 4 = 0 := by
  unfold State.locate at h
  split at h
  · cases h
  · obtain ⟨b, -, rfl⟩ := Option.map_eq_some_iff.1 h
    have hword := wordAligned_wordAddress a
    unfold wordAligned at hword
    unfold memoryKey
    omega

theorem State.noteStale_only (s : State) (k : Nat) : s.noteStale k = { s with stale := (s.noteStale k).stale } := by
  unfold State.noteStale
  split <;> rfl

/-- The words noted as stored to, once the store of one word has completed. -/
theorem State.noteStale_retired (s : State) (k : Nat) :
    (s.noteStale k).stale.filter (fun e => !e.flushed) = s.noted [k] := by
  unfold State.noteStale State.noted State.unflushed
  split <;> simp

/-- A store of a whole word to storage that answers. -/
theorem storesBytes_of_located {s : State} (hwf : Memory.wf s.mem = true) {asi : Byte} {a : Word} {k : Nat} (v : Word)
    (hl : s.locate .write asi a = some k) :
    StoresBytes s (.next (s.store true (s.writeWord asi a v))) k
      [v.extractLsb' 24 8, v.extractLsb' 16 8, v.extractLsb' 8 8, v.extractLsb' 0 8] := by
  have hw : s.writeWord asi a v = some { s.noteStale k with mem := Memory.setMasked s.mem k 0b1111#4 v } :=
    State.memoryWrite_located hl
  rw [hw]
  have hget := fun j => Memory.get_setMasked s.mem k 0b1111#4 v j hwf
  refine ⟨_, rfl, ⟨?_, ?_⟩, ?_, ?_, ?_, ?_, ?_⟩
  · simp [State.store]
  · simp [State.store]
  · intro j hj
    show Memory.get (Memory.setMasked s.mem k 0b1111#4 v) (k + j) = _
    rw [hget]
    have hcases : j = 0 ∨ j = 1 ∨ j = 2 ∨ j = 3 := by simp at hj; omega
    rcases hcases with rfl | rfl | rfl | rfl <;> simp [byteOfWord]
  · intro j hj
    show Memory.get (Memory.setMasked s.mem k 0b1111#4 v) j = _
    rw [hget]
    simp only [List.length_cons, List.length_nil] at hj
    simp [show j ≠ k by omega, show j ≠ k + 1 by omega, show j ≠ k + 2 by omega, show j ≠ k + 3 by omega]
  · have hk := State.locate_mod_four hl
    simpa [State.store, hk] using s.noteStale_retired k
  · intro w n
    apply State.regIn_congr <;> simp [State.store]
  · unfold OnlyMem
    rw [s.noteStale_only k]
    rfl

/-- Settles O45: with the FPU ready LDFSR and STFSR neither trap nor wait, so that each is its access. -/
theorem fsrLoadAndStore : Obligations.FsrLoadAndStore := by
  unfold Obligations.FsrLoadAndStore
  intro s rs1 src k hready
  have ⟨hq, _, _, hm, hn⟩ := hready
  dsimp only
  intro ha
  have haligned : aligned (s.address rs1 src) 4 = true := by simp [aligned, ha]
  refine ⟨fun hl => ?_, fun hwf hl => ?_⟩
  · have he : exec (.ldfsr rs1 src) s =
        .next (s.setFsr (fsrLoad s.fpu.fsr (Memory.word s.mem k))).advance := by
      show Host.Outcome.next (s.fpGuard fun s => s.loadFsr s.dataAsi (s.ea rs1 src)) = _
      rw [State.fpGuard_ready hready, State.dataAsi_quiet hq, State.ea_quiet hq, State.loadFsr_located hm hn haligned hl]
    have hfpu : s.onlyFpuChanged (s.setFsr (fsrLoad s.fpu.fsr (Memory.word s.mem k))) := rfl
    obtain ⟨hadv, hregs, hmem, honly⟩ := hfpu.advance
    exact ⟨_, he, hadv, hregs, hmem, honly, rfl, rfl, fun j hj => fsrWord_reserved _ hj⟩
  · have he : exec (.stfsr rs1 src) s =
        .next (s.store true (s.writeWord s.space (s.address rs1 src) (fsrWord s.fpu.fsr))) := by
      show Host.Outcome.next (s.fpGuard fun s => s.storeFsr s.dataAsi (s.ea rs1 src)) = _
      rw [State.fpGuard_ready hready, State.dataAsi_quiet hq, State.ea_quiet hq]
      simp [State.storeFsr, haligned, State.fpHold_ready hready]
    rw [he]
    exact storesBytes_of_located hwf (fsrWord s.fpu.fsr) hl

end Sys2Proof.Machine

/-! ## Memory: instructions read from bytes, misaligned accesses (O2, O29) -/

namespace Sys2Proof.Machine

/-! ### An instruction from its bytes -/

/-- The bytes of a word in memory order are read as that word, and the bytes that follow are left (R105). -/
theorem decode_bytesOfWord {w : Word} {i : Instr} (h : decodeWord w = .ok i) (rest : List Byte) :
    decode (bytesOfWord w ++ rest) = .ok (i, rest) := by
  simp [bytesOfWord, decode, wordOfBytes_byteOfWord, h]

/-- Settles O2: the four bytes are those of the word that encode writes. -/
theorem decodeFromBytes : Obligations.DecodeFromBytes := by
  unfold Obligations.DecodeFromBytes
  exact fun i rest hwf => decode_bytesOfWord (decodeWord_encode hwf) rest

/-! ### Misaligned accesses -/

/-- An access of an instruction traps at every address that is no multiple of a number, whatever the address space, before it
does anything else (R106, R202). -/
def RefusesMisaligned (access : State → Byte → Word → State) (n : Nat) : Prop :=
  ∀ s asi a, a.toNat % n ≠ 0 → access s asi a = s.takeTrap .memAddressNotAligned

theorem aligned_false {a : Word} {n : Nat} (h : a.toNat % n ≠ 0) : aligned a n = false := by
  simp [aligned, h]

section Refusals
variable (rd : Reg)

theorem loadSignedHalf_refuses : RefusesMisaligned (fun s asi a => s.loadSignedHalf asi a rd) 2 :=
  fun s asi a h => by simp [State.loadSignedHalf, State.loadReg, aligned_false h]

theorem loadUnsignedHalf_refuses : RefusesMisaligned (fun s asi a => s.loadUnsignedHalf asi a rd) 2 :=
  fun s asi a h => by simp [State.loadUnsignedHalf, State.loadReg, aligned_false h]

theorem loadWord_refuses : RefusesMisaligned (fun s asi a => s.loadWord asi a rd) 4 :=
  fun s asi a h => by simp [State.loadWord, State.loadReg, aligned_false h]

theorem loadDouble_refuses : RefusesMisaligned (fun s asi a => s.loadDouble asi a rd) 8 :=
  fun s asi a h => by simp [State.loadDouble, aligned_false h]

/-- A store of one access, whatever it writes. -/
theorem store_refuses (n : Nat) (write : State → Byte → Word → Option State) :
    RefusesMisaligned (fun s asi a => s.store (aligned a n) (write s asi a)) n :=
  fun s asi a h => by simp [State.store, aligned_false h]

theorem storeHalf_refuses : RefusesMisaligned (fun s asi a => s.storeHalf asi a rd) 2 :=
  store_refuses 2 fun s asi a => s.writeHalf asi a ((s.reg .rdRead rd).setWidth 16)

theorem storeWord_refuses : RefusesMisaligned (fun s asi a => s.storeWord asi a rd) 4 :=
  store_refuses 4 fun s asi a => s.writeWord asi a (s.reg .rdRead rd)

/-- A store of two words, whatever they are. -/
theorem storePair_refuses (v0 v1 : State → Word) :
    RefusesMisaligned (fun s asi a => s.storePair asi a (v0 s) (v1 s)) 8 :=
  fun s asi a h => by simp [State.storePair, aligned_false h]

theorem storeDouble_refuses : RefusesMisaligned (fun s asi a => s.storeDouble asi a rd) 8 :=
  storePair_refuses (fun s => s.reg .rdRead (evenOf rd)) fun s => s.reg .rdReadOdd (oddOf rd)

theorem swapWord_refuses : RefusesMisaligned (fun s asi a => s.swapWord asi a rd) 4 :=
  fun s asi a h => by simp [State.swapWord, aligned_false h]

theorem loadSingleFp_refuses : RefusesMisaligned (fun s asi a => s.loadSingleFp asi a rd) 4 :=
  fun s asi a h => by simp [State.loadSingleFp, aligned_false h]

theorem loadDoubleFp_refuses : RefusesMisaligned (fun s asi a => s.loadDoubleFp asi a rd) 8 :=
  fun s asi a h => by simp [State.loadDoubleFp, aligned_false h]

theorem loadFsr_refuses : RefusesMisaligned (fun s asi a => s.loadFsr asi a) 4 :=
  fun s asi a h => by simp [State.loadFsr, aligned_false h]

theorem storeFsr_refuses : RefusesMisaligned (fun s asi a => s.storeFsr asi a) 4 :=
  fun s asi a h => by simp [State.storeFsr, aligned_false h]

theorem storeQueue_refuses : RefusesMisaligned (fun s asi a => s.storeQueue asi a) 8 :=
  fun s asi a h => by simp [State.storeQueue, aligned_false h]

theorem loadCp_refuses (put : State → Word → State) : RefusesMisaligned (fun s asi a => s.loadCp asi a put) 4 :=
  fun s asi a h => by simp [State.loadCp, aligned_false h]

theorem loadDoubleCp_refuses : RefusesMisaligned (fun s asi a => s.loadDoubleCp asi a rd) 8 :=
  fun s asi a h => by simp [State.loadDoubleCp, aligned_false h]

theorem storeCp_refuses (v : State → Word) : RefusesMisaligned (fun s asi a => s.storeCp asi a (v s)) 4 :=
  fun s asi a h => by simp [State.storeCp, State.store, aligned_false h]

theorem storeDoubleCp_refuses (v0 v1 : State → Word) :
    RefusesMisaligned (fun s asi a => s.storeDoubleCp asi a (v0 s) (v1 s)) 8 :=
  fun s asi a h => by simp [State.storeDoubleCp, aligned_false h]

theorem storeCpQueue_refuses : RefusesMisaligned (fun s asi a => s.storeCpQueue asi a) 8 :=
  fun s asi a h => by simp [State.storeCpQueue, aligned_false h]

end Refusals

/-! ### The instructions around an access -/

/-- A floating-point instruction with the FPU enabled and no exception outstanding goes on, whatever is queued. -/
theorem State.fpGuard_enabled {s : State} (hq : s.quiet) (hef : s.psr.ef = true) (hp : s.cfg.fpuPresent = true)
    (hm : s.fpu.mode ≠ .exceptionPending) (body : State → State) : s.fpGuard body = body s := by
  have hd : s.fpDisabled = false := by simp [State.fpDisabled, State.seeEf_quiet hq, hef, hp]
  simp [State.fpGuard, hd, hm]

section Access
variable {access : State → Byte → Word → State} {n : Nat} (h : RefusesMisaligned access n) {s : State} (hq : s.quiet)
  (het : s.psr.et = true)
include h hq het

/-- A normal access: in the mode's data space at the effective address. -/
theorem RefusesMisaligned.normal {rs1 : Reg} {src : Operand2} (ha : (s.address rs1 src).toNat % n ≠ 0) :
    Traps s (.next (access s s.dataAsi (s.ea rs1 src))) 7 := by
  rw [State.ea_quiet hq, h s _ _ ha]
  exact traps_of_quiet hq het .memAddressNotAligned

/-- An alternate-space access in supervisor mode: in the space named. -/
theorem RefusesMisaligned.alternate (hs : s.psr.s = true) {rs1 rs2 : Reg} (asi : Byte)
    (ha : (s.addressA rs1 rs2).toNat % n ≠ 0) :
    Traps s (.next (s.privileged fun s => access s asi (s.eaAlternate rs1 rs2))) 7 := by
  rw [State.privileged_supervisor hq hs, State.eaAlternate_quiet hq, h s _ _ ha]
  exact traps_of_quiet hq het .memAddressNotAligned

/-- An access behind a guard that lets the instruction go on. -/
theorem RefusesMisaligned.guarded {rs1 : Reg} {src : Operand2} (ha : (s.address rs1 src).toNat % n ≠ 0)
    {guard : State → (State → State) → State} (hg : ∀ body, guard s body = body s) :
    Traps s (.next (guard s fun s => access s s.dataAsi (s.ea rs1 src))) 7 := by
  rw [hg]
  exact h.normal hq het ha

/-- A privileged access behind such a guard, in supervisor mode. -/
theorem RefusesMisaligned.privileged (hs : s.psr.s = true) {rs1 : Reg} {src : Operand2}
    (ha : (s.address rs1 src).toNat % n ≠ 0) {guard : State → (State → State) → State}
    (hg : ∀ body, guard s body = body s) :
    Traps s (.next (s.privileged fun s => guard s fun s => access s s.dataAsi (s.ea rs1 src))) 7 := by
  rw [State.privileged_supervisor hq hs]
  exact h.guarded hq het ha hg

/-- A floating-point access that waits for queued FPops, with nothing queued. -/
theorem RefusesMisaligned.held (hready : s.fpReady) {rs1 : Reg} {src : Operand2}
    (ha : (s.address rs1 src).toNat % n ≠ 0) (wait : List FqEntry → Bool) :
    Traps s (.next (s.fpGuard fun s => s.fpHold wait fun s => access s s.dataAsi (s.ea rs1 src))) 7 := by
  rw [State.fpGuard_ready hready, State.fpHold_ready hready]
  exact h.normal hq het ha

end Access

/-- Settles O29: each instruction is an access that refuses a misaligned address (`RefusesMisaligned`), in the data space or in
the space named, behind a guard that the hypotheses open. -/
theorem misalignedAccessTraps : Obligations.MisalignedAccessTraps := by
  unfold Obligations.MisalignedAccessTraps
  refine ⟨fun s rd rs1 rs2 src asi hq het => ⟨?_, ?_⟩, fun s rd rs1 src hq het => ⟨?_, ?_, ?_⟩⟩
  · exact ⟨(loadSignedHalf_refuses rd).normal hq het, (loadUnsignedHalf_refuses rd).normal hq het,
      (storeHalf_refuses rd).normal hq het, (loadWord_refuses rd).normal hq het, (storeWord_refuses rd).normal hq het,
      (swapWord_refuses rd).normal hq het, (loadDouble_refuses rd).normal hq het, (storeDouble_refuses rd).normal hq het⟩
  · intro a hs
    exact ⟨(loadSignedHalf_refuses rd).alternate hq het hs asi, (loadUnsignedHalf_refuses rd).alternate hq het hs asi,
      (storeHalf_refuses rd).alternate hq het hs asi, (loadWord_refuses rd).alternate hq het hs asi,
      (storeWord_refuses rd).alternate hq het hs asi, (swapWord_refuses rd).alternate hq het hs asi,
      (loadDouble_refuses rd).alternate hq het hs asi, (storeDouble_refuses rd).alternate hq het hs asi⟩
  · intro hready
    refine ⟨fun ha i hi => ?_, fun ha i hi => ?_⟩ <;>
      simp only [List.mem_cons, List.not_mem_nil, or_false] at hi <;> rcases hi with rfl | rfl
    · exact (loadSingleFp_refuses rd).held hq het hready ha (waitUse [rd])
    · exact (store_refuses 4 fun s asi a => s.writeWord asi a (s.freg rd)).held hq het hready ha (waitWrite [rd])
    · exact (loadDoubleFp_refuses rd).held hq het hready ha (waitUse [pairHigh rd, pairLow rd])
    · exact (storePair_refuses (fun s => s.freg (pairHigh rd)) fun s => s.freg (pairLow rd)).held hq het hready ha
        (waitWrite [pairHigh rd, pairLow rd])
  · intro hef hp hm
    have hg := State.fpGuard_enabled hq hef hp hm
    refine ⟨fun ha i hi => ?_, fun ha hs => storeQueue_refuses.privileged hq het hs ha hg⟩
    simp only [List.mem_cons, List.not_mem_nil, or_false] at hi
    rcases hi with rfl | rfl
    · exact loadFsr_refuses.guarded hq het ha hg
    · exact storeFsr_refuses.guarded hq het ha hg
  · intro hready
    have hg := State.cpGuard_ready hready
    refine ⟨fun ha i hi => ?_, fun ha i hi => ?_, fun ha hs => storeCpQueue_refuses.privileged hq het hs ha hg⟩ <;>
      simp only [List.mem_cons, List.not_mem_nil, or_false] at hi
    · rcases hi with rfl | rfl | rfl | rfl
      · exact (loadCp_refuses fun t w => t.setCreg rd w).guarded hq het ha hg
      · exact (loadCp_refuses State.setCsr).guarded hq het ha hg
      · exact (storeCp_refuses fun s => s.creg rd).guarded hq het ha hg
      · exact (storeCp_refuses fun s => s.cp.csr).guarded hq het ha hg
    · rcases hi with rfl | rfl
      · exact (loadDoubleCp_refuses rd).guarded hq het ha hg
      · exact (storeDoubleCp_refuses (fun s => s.creg (evenOf rd)) fun s => s.creg (oddOf rd)).guarded hq het ha hg

end Sys2Proof.Machine

/-! ## Stores stay in their address space's storage (O16)

From the two accesses of memory up: an operation writes only the storage behind one address space. In user mode that space
is 10, and every instruction that could name another traps before its access. -/

namespace Sys2Proof.Machine

/-! ### What an operation at an address space writes -/

/-- A byte outside the storage behind an address space. -/
def OutsideSpace (cfg : Params) (asi : Byte) (k : Nat) : Prop :=
  ∀ b, bankOf cfg asi = some b → k < b * 2 ^ 32 ∨ (b + 1) * 2 ^ 32 ≤ k

/-- Between two states with the same parameters, memory stays canonical and only the storage behind an address space is
written. -/
structure WritesOnly (asi : Byte) (s t : State) : Prop where
  cfg : t.cfg = s.cfg
  wf : Memory.wf s.mem = true → Memory.wf t.mem = true
  kept : Memory.wf s.mem = true → ∀ k, OutsideSpace s.cfg asi k → Memory.get t.mem k = Memory.get s.mem k

theorem WritesOnly.refl (asi : Byte) (s : State) : WritesOnly asi s s := ⟨rfl, id, fun _ _ _ => rfl⟩

/-- The word that holds an address lies below 2^32, with all its bytes. -/
theorem wordAddress_add_lt (a : Word) {j : Nat} (hj : j < 4) : (wordAddress a).toNat + j < 2 ^ 32 := by
  have hlt := (wordAddress a).isLt
  have hword := wordAligned_wordAddress a
  unfold wordAligned at hword
  omega

/-- The bytes of a located word are in the storage behind its address space. -/
theorem State.locate_inside {s : State} {acc : Access} {asi : Byte} {a : Word} {k : Nat} (h : s.locate acc asi a = some k)
    {j : Nat} (hj : j < 4) : ¬ OutsideSpace s.cfg asi (k + j) := by
  unfold State.locate at h
  split at h
  · cases h
  · obtain ⟨b, hb, rfl⟩ := Option.map_eq_some_iff.1 h
    intro hout
    have hlt := wordAddress_add_lt a hj
    have hb' := hout b hb
    unfold memoryKey at hb'
    omega

/-- A masked write keeps every byte but those of its word. -/
theorem Memory.get_setMasked_other {m : List Host.Cell} {k i : Nat} (mask : BitVec 4) (w : Word)
    (h : Memory.wf m = true) (hi : ∀ j < 4, i ≠ k + j) : Memory.get (Memory.setMasked m k mask w) i = Memory.get m i := by
  have h0 : i ≠ k := hi 0 (by decide)
  have h1 := hi 1 (by decide)
  have h2 := hi 2 (by decide)
  have h3 := hi 3 (by decide)
  rw [Memory.get_setMasked _ _ _ _ _ h]
  simp [h0, h1, h2, h3]

section Chain
variable {asi : Byte} {u s t : State} (h : WritesOnly asi u s)
include h

/-- An update of neither the parameters nor memory. -/
theorem WritesOnly.of_eq (hc : t.cfg = s.cfg) (hm : t.mem = s.mem) : WritesOnly asi u t := by
  refine ⟨hc.trans h.cfg, fun hw => ?_, fun hw => ?_⟩ <;> rw [hm]
  · exact h.wf hw
  · exact h.kept hw

/-- A store in the address space. -/
theorem WritesOnly.memoryWrite {a : Word} {mask : BitVec 4} {data : Word} (hw : s.memoryWrite asi a mask data = some t) :
    WritesOnly asi u t := by
  rcases State.memoryWrite_some hw with ⟨-, e⟩ | ⟨k, hk, e⟩
  · exact h.of_eq (by rw [e]) (by rw [e])
  · have hm : t.mem = Memory.setMasked s.mem k mask data := by rw [e]
    refine ⟨by rw [e]; exact h.cfg, fun hwf => ?_, fun hwf i hi => ?_⟩ <;> rw [hm]
    · exact Memory.setMasked_wf _ _ _ _ (h.wf hwf)
    · have hne : ∀ j < 4, i ≠ k + j := by
        rintro j hj rfl
        exact State.locate_inside hk hj (by rwa [h.cfg])
      rw [Memory.get_setMasked_other _ _ (h.wf hwf) hne, h.kept hwf i hi]

/-- A read, which changes the environment only. -/
theorem WritesOnly.memoryRead (acc : Access) (asi' : Byte) (a : Word) (mask : BitVec 4) :
    WritesOnly asi u (s.memoryRead acc asi' a mask).1 := by
  rw [State.memoryRead_only]
  exact h.of_eq rfl rfl

theorem WritesOnly.readWord {asi' : Byte} {a : Word} {r : Option Word} (hr : s.readWord asi' a = (t, r)) :
    WritesOnly asi u t := by
  have ht := h.memoryRead .read asi' a 0b1111#4
  rwa [show s.memoryRead .read asi' a 0b1111#4 = (t, r) from hr] at ht

theorem WritesOnly.readByte (asi' : Byte) (a : Word) : WritesOnly asi u (s.readByte asi' a).1 :=
  h.memoryRead .read asi' a (byteMask a)

theorem WritesOnly.readHalf (asi' : Byte) (a : Word) : WritesOnly asi u (s.readHalf asi' a).1 :=
  h.memoryRead .read asi' a (halfMask a)

/-- An operation of the FPU. -/
theorem WritesOnly.fpu (ht : s.onlyFpuChanged t) : WritesOnly asi u t := by
  unfold State.onlyFpuChanged at ht
  exact h.of_eq (by rw [ht]) (by rw [ht])

theorem WritesOnly.setCp (c : CpState) : WritesOnly asi u (s.setCp c) := h.of_eq rfl rfl

theorem WritesOnly.setReg (use : Use) (n : Reg) (v : Word) : WritesOnly asi u (s.setReg use n v) :=
  h.of_eq (by simp) (by simp)

theorem WritesOnly.advance : WritesOnly asi u s.advance := h.of_eq rfl rfl

theorem WritesOnly.transfer (target : Word) (annul : Bool) : WritesOnly asi u (s.transfer target annul) := by
  unfold State.transfer
  cases annul <;> cases s.prev.conditional <;> exact h.of_eq rfl rfl

theorem WritesOnly.takeTrap (t : Trap) : WritesOnly asi u (s.takeTrap t) := by
  rcases s.takeTrap_cases t with ⟨-, e⟩ | ⟨-, -, e⟩ | ⟨-, -, e⟩ <;> rw [e]
  · exact h
  · exact h.of_eq (by simp) (by simp)
  · exact h.of_eq rfl rfl

end Chain

/-! ### Integer loads and stores -/

section Integer
variable {asi : Byte} {u s : State} (h : WritesOnly asi u s)
include h

theorem WritesOnly.loadReg (rd : Reg) (isAligned : Bool) {r : State × Option Word} (hr : WritesOnly asi u r.1) :
    WritesOnly asi u (s.loadReg rd isAligned r) := by
  rcases s.loadReg_cases rd isAligned r with ⟨-, e⟩ | ⟨-, -, e⟩ | ⟨-, v, -, e⟩ <;> rw [e]
  · exact h.takeTrap _
  · exact hr.takeTrap _
  · exact (hr.setReg _ _ _).advance

theorem WritesOnly.loadDouble (asi' : Byte) (a : Word) (rd : Reg) : WritesOnly asi u (s.loadDouble asi' a rd) := by
  rcases s.loadDouble_cases asi' a rd with
    ⟨-, e⟩ | ⟨-, s1, h1, e⟩ | ⟨-, s1, w0, h1, ⟨s2, h2, e⟩ | ⟨s2, w1, h2, e⟩⟩ <;> rw [e]
  · exact h.takeTrap _
  · exact (h.readWord h1).takeTrap _
  · exact (((h.readWord h1).setReg _ _ _).readWord h2).takeTrap _
  · exact ((((h.readWord h1).setReg _ _ _).readWord h2).setReg _ _ _).advance

theorem WritesOnly.store (isAligned : Bool) {r : Option State} (hr : ∀ t, r = some t → WritesOnly asi u t) :
    WritesOnly asi u (s.store isAligned r) := by
  rcases s.store_cases isAligned r with ⟨-, e⟩ | ⟨-, -, e⟩ | ⟨-, t, ht, e⟩ <;> rw [e]
  · exact h.takeTrap _
  · exact h.takeTrap _
  · exact (hr t ht).advance

/-- A store of one access: a byte, a halfword or a word. -/
theorem WritesOnly.storeAccess (isAligned : Bool) (a : Word) (mask : BitVec 4) (data : Word) :
    WritesOnly asi u (s.store isAligned (s.memoryWrite asi a mask data)) :=
  h.store isAligned fun _ ht => h.memoryWrite ht

theorem WritesOnly.storePair (a v0 v1 : Word) : WritesOnly asi u (s.storePair asi a v0 v1) := by
  rcases s.storePair_cases asi a v0 v1 with
    ⟨-, e⟩ | ⟨-, -, e⟩ | ⟨-, s1, h1, ⟨-, e⟩ | ⟨s2, h2, e⟩⟩ <;> rw [e]
  · exact h.takeTrap _
  · exact h.takeTrap _
  · exact (h.memoryWrite h1).takeTrap _
  · exact ((h.memoryWrite h1).memoryWrite h2).advance

theorem WritesOnly.loadStoreByte (a : Word) (rd : Reg) : WritesOnly asi u (s.loadStoreByte asi a rd) := by
  have hr := h.readByte asi a
  rcases s.loadStoreByte_cases asi a rd with ⟨s1, h1, e⟩ | ⟨s1, b, h1, s2, rfl, ⟨-, e⟩ | ⟨s3, h3, e⟩⟩ <;> rw [e] <;>
    rw [h1] at hr
  · exact hr.takeTrap _
  · exact (hr.setReg _ _ _).takeTrap _
  · exact ((hr.setReg _ _ _).memoryWrite h3).advance

theorem WritesOnly.swapWord (a : Word) (rd : Reg) : WritesOnly asi u (s.swapWord asi a rd) := by
  rcases s.swapWord_cases asi a rd with
    ⟨-, e⟩ | ⟨-, s1, h1, e⟩ | ⟨-, s1, w, h1, s2, rfl, ⟨-, e⟩ | ⟨s3, h3, e⟩⟩ <;> rw [e]
  · exact h.takeTrap _
  · exact (h.readWord h1).takeTrap _
  · exact ((h.readWord h1).setReg _ _ _).takeTrap _
  · exact (((h.readWord h1).setReg _ _ _).memoryWrite h3).advance

/-! ### Registers, condition codes, windows, control transfers -/

theorem WritesOnly.writeFlagged (rd : Reg) (v : Word) (flags : Icc) : WritesOnly asi u (s.writeFlagged rd v flags) :=
  ((h.setReg .rdWrite rd v).of_eq (t := (s.setReg .rdWrite rd v).putIcc flags) rfl rfl).advance

theorem WritesOnly.ite_takeTrap (c : Bool) (t : Trap) {s' : State} (hs' : WritesOnly asi u s') :
    WritesOnly asi u (if c then s.takeTrap t else s') := by
  split
  · exact h.takeTrap t
  · exact hs'

theorem WritesOnly.changeWindow (w : BitVec 5) (t : Trap) (rd : Reg) (v : Word) :
    WritesOnly asi u (s.changeWindow w t rd v) := by
  rcases s.changeWindow_cases w t rd v with ⟨-, e⟩ | ⟨-, e⟩ <;> rw [e]
  · exact h.takeTrap t
  · exact h.of_eq (by simp) (by simp)

theorem WritesOnly.trapOn (test : Icc → Bool) (rs1 : Reg) (src : Operand2) :
    WritesOnly asi u (s.trapOn test rs1 src) := by
  rcases s.trapOn_cases test rs1 src with ⟨-, e⟩ | ⟨-, e⟩ <;> rw [e]
  · exact h.takeTrap _
  · exact h.advance

theorem WritesOnly.branch (taken annul : Bool) (disp : BitVec 22) : WritesOnly asi u (s.branch taken annul disp) := by
  rcases s.branch_cases taken annul disp with ⟨-, e⟩ | ⟨-, e⟩ <;> rw [e]
  · exact h.transfer _ _
  · exact h.transfer _ _

/-- JMPL by its alignment. -/
theorem WritesOnly.jump (rd : Reg) (a : Word) :
    WritesOnly asi u
      (if aligned a 4 then (s.setReg .rdWrite rd s.pc).transfer a false else s.takeTrap .memAddressNotAligned) := by
  split
  · exact (h.setReg _ _ _).transfer _ _
  · exact h.takeTrap _

theorem WritesOnly.failReturn (t : Trap) : WritesOnly asi u (s.failReturn t) := by
  unfold State.failReturn
  split
  · exact h
  · exact h.of_eq rfl rfl

theorem WritesOnly.iflush (a : Word) :
    WritesOnly asi u (if s.cfg.iuCachePresent then s.advance.flushWord a
      else if s.cfg.extCachePresent then s.takeTrap .illegalInstruction else s.advance) := by
  split
  · exact h.of_eq rfl rfl
  · exact h.ite_takeTrap _ _ h.advance

end Integer

/-! ### The floating-point unit -/

theorem State.completeFront_only (s : State) : s.onlyFpuChanged s.completeFront := by
  cases hq : s.fpu.queue with
  | nil =>
    have he : s.completeFront = s := by simp [State.completeFront, hq]
    rw [he]
    rfl
  | cons e rest => exact (State.completeFront_cases hq).1

theorem State.fpuStepsWhile_only (wait : List FqEntry → Bool) (n : Nat) (s : State) :
    s.onlyFpuChanged (s.fpuStepsWhile wait n) := by
  induction n generalizing s with
  | zero => rfl
  | succ n ih =>
    unfold State.fpuStepsWhile
    split
    · exact s.completeFront_only.trans (ih _)
    · rfl

theorem State.holdWhile_only (s : State) (wait : List FqEntry → Bool) : s.onlyFpuChanged (s.holdWhile wait) :=
  s.fpuStepsWhile_only wait _

theorem State.accept_only (s : State) (e : FqEntry) : s.onlyFpuChanged (s.accept e) := by
  unfold State.accept
  split
  · rfl
  · have hq : s.onlyFpuChanged (s.setQueue (s.fpu.queue ++ [e])) := rfl
    exact hq.trans (State.holdWhile_only _ _)

theorem State.keepOrConstant_only (s : State) (n : Nat) (r : Reg) : s.onlyFpuChanged (s.keepOrConstant n r) := by
  unfold State.keepOrConstant
  split <;> rfl

theorem State.loadFreg_only (s : State) (n : Nat) (r : Reg) (v : Word) : s.onlyFpuChanged (s.loadFreg n r v) := by
  unfold State.loadFreg
  split <;> rfl

section Fpu
variable {asi : Byte} {u s : State} (h : WritesOnly asi u s)
include h

theorem WritesOnly.fpExceptionTrap : WritesOnly asi u s.fpExceptionTrap := by
  unfold State.fpExceptionTrap
  exact (h.fpu (t := (s.setFsr { s.fpu.fsr with qne := !s.fpu.queue.isEmpty }).setFpuMode .exception) rfl).takeTrap _

theorem WritesOnly.fpGuard {body : State → State} (hb : WritesOnly asi u (body s)) :
    WritesOnly asi u (s.fpGuard body) := by
  rcases s.fpGuard_cases body with ⟨-, e⟩ | ⟨-, -, e⟩ | ⟨-, -, e⟩ <;> rw [e]
  · exact h.takeTrap _
  · exact h.fpExceptionTrap
  · exact hb

/-- After a wait the instruction goes on in a state in which the FPU only has changed. -/
theorem WritesOnly.fpHold (wait : List FqEntry → Bool) {body : State → State}
    (hb : ∀ t, s.onlyFpuChanged t → WritesOnly asi u t → WritesOnly asi u (body t)) :
    WritesOnly asi u (s.fpHold wait body) := by
  have ht := h.fpu (s.holdWhile_only wait)
  rcases s.fpHold_cases wait body with ⟨-, e⟩ | ⟨-, e⟩ <;> rw [e]
  · exact ht.fpExceptionTrap
  · exact hb _ (s.holdWhile_only wait) ht

theorem WritesOnly.fpop (fn : FpFn) (rd rs1 rs2 : Reg) (word : Word) :
    WritesOnly asi u (s.fpop fn rd rs1 rs2 word) := by
  rcases s.fpop_cases fn rd rs1 rs2 word with
    ⟨-, e⟩ | ⟨-, -, e⟩ | ⟨-, -, e⟩ | ⟨-, -, -, s1, rfl, ⟨-, e⟩ | ⟨-, e⟩⟩ <;> rw [e]
  · exact h.takeTrap _
  · exact h.fpExceptionTrap
  · exact (h.fpu (t := s.sequenceError) rfl).advance
  · exact (h.fpu (s.holdWhile_only _)).fpExceptionTrap
  · exact ((h.fpu (s.holdWhile_only _)).fpu (State.accept_only _ _)).advance

theorem WritesOnly.loadDone (mode : FpuMode) : WritesOnly asi u (s.loadDone mode) := by
  unfold State.loadDone
  split
  · exact (h.fpu (t := s.sequenceError) rfl).advance
  · exact h.advance

theorem WritesOnly.loadSingleFp (asi' : Byte) (a : Word) (rd : Reg) : WritesOnly asi u (s.loadSingleFp asi' a rd) := by
  rcases s.loadSingleFp_cases asi' a rd with ⟨-, e⟩ | ⟨-, s1, h1, e⟩ | ⟨-, s1, w, h1, e⟩ <;> rw [e]
  · exact h.takeTrap _
  · exact ((h.readWord h1).fpu (s1.keepOrConstant_only _ _)).takeTrap _
  · exact ((h.readWord h1).fpu (s1.loadFreg_only _ _ _)).loadDone _

theorem WritesOnly.loadDoubleFp (asi' : Byte) (a : Word) (rd : Reg) : WritesOnly asi u (s.loadDoubleFp asi' a rd) := by
  unfold State.loadDoubleFp
  split
  · split
    · next s1 h1 =>
      exact ((h.readWord h1).fpu ((s1.keepOrConstant_only _ _).trans (State.keepOrConstant_only _ _ _))).takeTrap _
    · next s1 w0 h1 =>
      split
      · next s2 h2 =>
        have hs2 := (h.readWord h1).readWord h2
        have hs3 : WritesOnly asi u (if s2.freeBool (.loadKept 2) then s2.setFreg (pairHigh rd) w0
            else s2.keepOrConstant 0 (pairHigh rd)) := by
          split
          · exact hs2.fpu (s2.setFreg_only _ _)
          · exact hs2.fpu (s2.keepOrConstant_only _ _)
        exact (hs3.fpu (State.keepOrConstant_only _ _ _)).takeTrap _
      · next s2 w1 h2 =>
        have hs2 := (h.readWord h1).readWord h2
        exact (hs2.fpu ((s2.loadFreg_only _ _ _).trans (State.loadFreg_only _ _ _ _))).loadDone _
  · exact h.takeTrap _

theorem WritesOnly.putLoadedFsr (w : Word) : WritesOnly asi u (s.putLoadedFsr w) := by
  rcases s.putLoadedFsr_cases w with e | ⟨-, e⟩ <;> rw [e]
  · exact (h.fpu (t := s.setFsr (fsrLoad s.fpu.fsr w)) rfl).loadDone _
  · exact h.loadDone _

theorem WritesOnly.loadFsr (asi' : Byte) (a : Word) : WritesOnly asi u (s.loadFsr asi' a) := by
  rcases s.loadFsr_cases asi' a with ⟨-, e⟩ | ⟨-, s1, h1, e⟩ | ⟨-, s1, w, h1, ⟨-, e⟩ | e⟩ <;> rw [e]
  · exact h.takeTrap _
  · exact (h.readWord h1).takeTrap _
  · exact ((h.readWord h1).fpu (s1.holdWhile_only _)).fpExceptionTrap
  · exact ((h.readWord h1).fpu (s1.holdWhile_only _)).putLoadedFsr w

theorem WritesOnly.storeFsr (a : Word) : WritesOnly asi u (s.storeFsr asi a) := by
  rcases s.storeFsr_cases asi a with ⟨-, e⟩ | ⟨-, e⟩ <;> rw [e]
  · exact h.takeTrap _
  · exact h.fpHold _ fun _ _ ht => ht.storeAccess _ _ _ _

/-! ### The coprocessor -/

theorem WritesOnly.cpGuard {body : State → State} (hb : WritesOnly asi u (body s)) :
    WritesOnly asi u (s.cpGuard body) := by
  rcases s.cpGuard_cases body with ⟨-, e⟩ | ⟨-, -, e⟩ | ⟨-, -, e⟩ <;> rw [e]
  · exact h.takeTrap _
  · exact (h.setCp _).takeTrap _
  · exact hb

theorem WritesOnly.loadCp (asi' : Byte) (a : Word) {put : State → Word → State}
    (hp : ∀ t w, WritesOnly asi u t → WritesOnly asi u (put t w)) : WritesOnly asi u (s.loadCp asi' a put) := by
  rcases s.loadCp_cases asi' a put with ⟨-, e⟩ | ⟨-, s1, h1, e⟩ | ⟨-, s1, w, h1, e⟩ <;> rw [e]
  · exact h.takeTrap _
  · exact ((h.readWord h1).setCp _).takeTrap _
  · exact ((hp s1 w (h.readWord h1)).setCp _).advance

theorem WritesOnly.setCregs (r r' : Reg) (v v' : Word) : WritesOnly asi u ((s.setCreg r v).setCreg r' v') :=
  h.of_eq rfl rfl

theorem WritesOnly.loadDoubleCp (asi' : Byte) (a : Word) (rd : Reg) : WritesOnly asi u (s.loadDoubleCp asi' a rd) := by
  unfold State.loadDoubleCp
  split
  · split
    · next s1 h1 => exact ((h.readWord h1).setCp _).takeTrap _
    · next s1 w0 h1 =>
      split
      · next s2 h2 => exact ((((h.readWord h1).readWord h2).setCp _).setCregs _ _ _ _).takeTrap _
      · next s2 w1 h2 => exact ((((h.readWord h1).readWord h2).setCregs _ _ _ _).setCp _).advance
  · exact h.takeTrap _

theorem WritesOnly.storeCp (a v : Word) : WritesOnly asi u (s.storeCp asi a v) := by
  refine h.store _ fun t ht => ?_
  obtain ⟨s1, h1, rfl⟩ := Option.map_eq_some_iff.1 ht
  exact (h.memoryWrite h1).setCp _

theorem WritesOnly.storeDoubleCp (a v0 v1 : Word) : WritesOnly asi u (s.storeDoubleCp asi a v0 v1) := by
  unfold State.storeDoubleCp
  split
  · split
    · exact h.takeTrap _
    · next s1 h1 =>
      split
      · exact (h.memoryWrite h1).takeTrap _
      · next s2 h2 => exact (((h.memoryWrite h1).memoryWrite h2).setCp _).advance
  · exact h.takeTrap _

theorem WritesOnly.cpop (word : Word) : WritesOnly asi u (s.cpop word) := h.cpGuard (h.setCp _).advance

/-! ### Branches on the units' conditions -/

theorem WritesOnly.branchFcc (values : List (BitVec 2)) (annul : Bool) (disp : BitVec 22) :
    WritesOnly asi u (s.branchFcc values annul disp) :=
  h.fpGuard (h.fpHold _ fun _ _ ht => ht.branch _ _ _)

theorem WritesOnly.branchCcc (values : List (BitVec 2)) (annul : Bool) (disp : BitVec 22) :
    WritesOnly asi u (s.branchCcc values annul disp) :=
  h.cpGuard (h.branch _ _ _)

end Fpu

/-! ### A word that is no instruction -/

theorem State.notAnInstruction_writesOnly {u s : State} (h : WritesOnly 10 u s) (e : DecodeError) (w : Word) :
    WritesOnly 10 u (s.notAnInstruction e w) := by
  have hx : ∀ k, WritesOnly 10 u (s.executing k) := fun k => h.of_eq rfl rfl
  cases e
  case unassignedFpop => exact (hx _).fpop _ _ _ _ _
  all_goals exact (hx _).takeTrap _

/-! ### User mode -/

/-- Every use of S in a state sees user mode. -/
def State.seesUser (s : State) : Prop := s.psr.s = false ∧ s.olds .s = []

section User
variable {s : State} (hu : s.seesUser)
include hu

theorem State.seesUser.seeBool (use : Use) : s.seeBool use .s = false := by
  obtain ⟨hs, holds⟩ := hu
  simp [State.seeBool, State.see_of_olds holds, State.live, hs, wordOfBool_getElem]

theorem State.seesUser.dataAsi : s.dataAsi = 10 := by simp [State.dataAsi, hu.seeBool]

theorem State.seesUser.privileged (body : State → State) : s.privileged body = s.takeTrap .privilegedInstruction := by
  simp [State.privileged, hu.seeBool]

theorem State.seesUser.of_eq {t : State} (hp : t.psr = s.psr) (hf : t.flight = s.flight) : t.seesUser := by
  unfold State.seesUser State.olds
  rwa [hp, hf]

theorem State.seesUser.fpu {t : State} (ht : s.onlyFpuChanged t) : t.seesUser := by
  unfold State.onlyFpuChanged at ht
  exact hu.of_eq (by rw [ht]) (by rw [ht])

/-- What writes the data space only writes space 10 only. -/
theorem State.seesUser.userData {u t : State} (h : WritesOnly s.dataAsi u s → WritesOnly s.dataAsi u t)
    (hs : WritesOnly 10 u s) : WritesOnly 10 u t := by
  rw [hu.dataAsi] at h
  exact h hs

/-- A privileged instruction traps. -/
theorem State.seesUser.writesOnly_privileged {u : State} (h : WritesOnly 10 u s) (body : State → State) :
    WritesOnly 10 u (s.privileged body) := by
  rw [hu.privileged]
  exact h.takeTrap _

theorem execWrpsr_writesOnly {u : State} (h : WritesOnly 10 u s) (rs1 : Reg) (src : Operand2) :
    ∃ t, execWrpsr rs1 src s = .next t ∧ WritesOnly 10 u t := by
  refine ⟨_, rfl, ?_⟩
  dsimp only
  split
  · exact h.takeTrap _
  · exact hu.writesOnly_privileged h _

/-- RETT comes to a trap, whatever ET is: in user mode it gets no further than the test of S (R374). -/
theorem execRett_writesOnly {u : State} (h : WritesOnly 10 u s) (rs1 : Reg) (src : Operand2) :
    ∃ t, execRett rs1 src s = .next t ∧ WritesOnly 10 u t := by
  refine ⟨_, rfl, ?_⟩
  simp only [hu.seeBool, Bool.not_false, if_true]
  exact h.ite_takeTrap _ _ (h.failReturn _)

/-- Every instruction, executed in user mode, writes only the user data space. -/
theorem exec_writesOnly {u : State} (h : WritesOnly 10 u s) (i : Instr) :
    ∃ t, exec i s = .next t ∧ WritesOnly 10 u t := by
  cases i
  case ldsb | ldub => exact ⟨_, rfl, h.loadReg _ _ (h.readByte _ _)⟩
  case ldsh | lduh => exact ⟨_, rfl, h.loadReg _ _ (h.readHalf _ _)⟩
  case ld => exact ⟨_, rfl, h.loadReg _ _ (h.readWord rfl)⟩
  case ldd => exact ⟨_, rfl, h.loadDouble _ _ _⟩
  case ldsba | lduba | ldsha | lduha | lda | ldda | stba | stha | sta | stda | ldstuba | swapa | stdfq | stdcq | rdpsr |
      rdwim | rdtbr | wrwim | wrtbr =>
    exact ⟨_, rfl, hu.writesOnly_privileged h _⟩
  case ldf => exact ⟨_, rfl, h.fpGuard (h.fpHold _ fun _ _ ht => ht.loadSingleFp _ _ _)⟩
  case lddf => exact ⟨_, rfl, h.fpGuard (h.fpHold _ fun _ _ ht => ht.loadDoubleFp _ _ _)⟩
  case ldfsr => exact ⟨_, rfl, h.fpGuard (h.loadFsr _ _)⟩
  case ldc => exact ⟨_, rfl, h.cpGuard (h.loadCp _ _ fun _ _ ht => ht.of_eq rfl rfl)⟩
  case lddc => exact ⟨_, rfl, h.cpGuard (h.loadDoubleCp _ _ _)⟩
  case ldcsr => exact ⟨_, rfl, h.cpGuard (h.loadCp _ _ fun _ _ ht => ht.of_eq rfl rfl)⟩
  case stb | sth | st => exact ⟨_, rfl, hu.userData (fun h => h.storeAccess _ _ _ _) h⟩
  case std => exact ⟨_, rfl, hu.userData (fun h => h.storePair _ _ _) h⟩
  case stf =>
    exact ⟨_, rfl, h.fpGuard (h.fpHold _ fun _ ho ht => (hu.fpu ho).userData (fun h => h.storeAccess _ _ _ _) ht)⟩
  case stdf =>
    exact ⟨_, rfl, h.fpGuard (h.fpHold _ fun _ ho ht => (hu.fpu ho).userData (fun h => h.storePair _ _ _) ht)⟩
  case stfsr => exact ⟨_, rfl, h.fpGuard (hu.userData (fun h => h.storeFsr _) h)⟩
  case stc | stcsr => exact ⟨_, rfl, h.cpGuard (hu.userData (fun h => h.storeCp _ _) h)⟩
  case stdc => exact ⟨_, rfl, h.cpGuard (hu.userData (fun h => h.storeDoubleCp _ _ _) h)⟩
  case ldstub => exact ⟨_, rfl, hu.userData (fun h => h.loadStoreByte _ _) h⟩
  case swap => exact ⟨_, rfl, hu.userData (fun h => h.swapWord _ _) h⟩
  case add | addx | sub | subx | and | andn | or | orn | xor | xnor | sll | srl | sra | sethi | rdy =>
    exact ⟨_, rfl, (h.setReg _ _ _).advance⟩
  case addcc | addxcc | taddcc | tsubcc | subcc | subxcc | andcc | andncc | orcc | orncc | xorcc | xnorcc =>
    exact ⟨_, rfl, h.writeFlagged _ _ _⟩
  case taddcctv | tsubcctv => exact ⟨_, rfl, h.ite_takeTrap _ _ (h.writeFlagged _ _ _)⟩
  case mulscc => exact ⟨_, rfl, (h.of_eq (t := s.putY _) rfl rfl).writeFlagged _ _ _⟩
  case save | restore => exact ⟨_, rfl, h.changeWindow _ _ _ _⟩
  case be | ble | bl | bleu | bcs | bneg | bvs | bne | bg | bge | bgu | bcc | bpos | bvc =>
    exact ⟨_, rfl, h.branch _ _ _⟩
  case bn | ba => exact ⟨_, rfl, h.transfer _ _⟩
  case fbne | fblg | fbul | fbl | fbug | fbg | fbu | fbe | fbue | fbge | fbuge | fble | fbule | fbo =>
    exact ⟨_, rfl, h.branchFcc _ _ _⟩
  case fbn | fba => exact ⟨_, rfl, h.fpGuard (h.fpHold _ fun _ _ ht => ht.transfer _ _)⟩
  case cb123 | cb12 | cb13 | cb1 | cb23 | cb2 | cb3 | cb0 | cb03 | cb02 | cb023 | cb01 | cb013 | cb012 =>
    exact ⟨_, rfl, h.branchCcc _ _ _⟩
  case cbn | cba => exact ⟨_, rfl, h.cpGuard (h.transfer _ _)⟩
  case call => exact ⟨_, rfl, (h.setReg _ _ _).transfer _ _⟩
  case jmpl => exact ⟨_, rfl, h.jump _ _⟩
  case rett => exact execRett_writesOnly hu h _ _
  case tn | te | tle | tl | tleu | tcs | tneg | tvs | ta | tne | tg | tge | tgu | tcc | tpos | tvc =>
    exact ⟨_, rfl, h.trapOn _ _ _⟩
  case wry => exact ⟨_, rfl, (h.of_eq (t := s.putDelayed .y _) (by simp) (by simp)).advance⟩
  case wrpsr => exact execWrpsr_writesOnly hu h _ _
  case unimp => exact ⟨_, rfl, h.takeTrap _⟩
  case iflush => exact ⟨_, rfl, h.iflush _⟩
  case cpop1 | cpop2 => exact ⟨_, rfl, h.cpop _⟩
  all_goals exact ⟨_, rfl, h.fpop _ _ _ _ _⟩

/-! ### One step -/

theorem State.seesUser.executing (k : Kind) : (s.executing k).seesUser := hu.of_eq rfl rfl

theorem State.executeWord_writesOnly {u : State} (h : WritesOnly 10 u s) (w : Word) :
    ∃ t, s.executeWord w = .next t ∧ WritesOnly 10 u t := by
  have hx : ∀ k, WritesOnly 10 u (s.executing k) := fun k => h.of_eq rfl rfl
  unfold State.executeWord
  split
  · split
    · exact ⟨_, rfl, (hx _).takeTrap _⟩
    · exact exec_writesOnly (hu.executing _) (hx _) _
  · exact ⟨_, rfl, State.notAnInstruction_writesOnly h _ w⟩

end User

theorem State.fetch_only (s : State) : s.fetch.1 = { s with env := s.fetch.1.env, coming := s.fetch.1.coming } := by
  unfold State.fetch
  split
  · exact s.memoryRead_only _ _ _ _
  · rfl

theorem State.executeCycle_writesOnly {u s : State} (hu : s.seesUser) (h : WritesOnly 10 u s) :
    ∃ t, s.executeCycle = .next t ∧ WritesOnly 10 u t := by
  have hfetch : WritesOnly 10 u s.fetch.1 := by rw [s.fetch_only]; exact h.of_eq rfl rfl
  have hufetch : s.fetch.1.seesUser := by rw [s.fetch_only]; exact hu.of_eq rfl rfl
  unfold State.executeCycle
  split
  · exact ⟨_, rfl, h.of_eq rfl rfl⟩
  split
  · exact ⟨_, rfl, h.of_eq (by simp) (by simp)⟩
  split
  · exact ⟨_, rfl, hfetch.of_eq rfl rfl⟩
  split
  · next s1 e =>
    rw [e] at hfetch
    exact ⟨_, rfl, hfetch.takeTrap _⟩
  · next s1 w e =>
    rw [e] at hfetch hufetch
    exact State.executeWord_writesOnly hufetch hfetch w

theorem State.sampleInputs_only (s : State) :
    s.sampleInputs = { s with inputs := s.sampleInputs.inputs, coming := s.sampleInputs.coming } := by
  unfold State.sampleInputs
  split <;> rfl

theorem State.runFpu_only (s : State) :
    s.runFpu = { s with fpu := s.runFpu.fpu, tick := s.runFpu.tick, fpuSteps := s.runFpu.fpuSteps } := by
  unfold State.runFpu
  split
  · split
    · rfl
    · next n rest _ =>
      have hsteps := State.fpuStepsWhile_only (fun _ => true) n { s with fpuSteps := rest }
      unfold State.onlyFpuChanged at hsteps
      rw [hsteps]
  · rfl

/-- What a step in execute_mode begins with leaves memory, the parameters and the PSR, and lets the delayed writes age. -/
theorem State.beginStep_execute {s : State} (hi : s.iu = .execute) :
    s.beginStep.iu = .execute ∧ s.beginStep.cfg = s.cfg ∧ s.beginStep.mem = s.mem ∧ s.beginStep.psr = s.psr ∧
      s.beginStep.flight = ageFlight s.flight := by
  have hsample : s.ticked.sampleInputs.iu = .execute := by rw [State.sampleInputs_only]; exact hi
  have hbegin : s.beginStep = { s.ticked.sampleInputs.runFpu with
      flight := ageFlight s.ticked.sampleInputs.runFpu.flight }.runCp := by
    simp only [State.ticked] at hsample
    simp [State.beginStep, State.ticked, hsample]
  rw [hbegin, State.runFpu_only, State.sampleInputs_only]
  simp [State.ticked, hi]

theorem State.userMode.seesUser_beginStep {s : State} (h : s.userMode) : s.beginStep.seesUser := by
  obtain ⟨hi, hs, -, hflight⟩ := h
  obtain ⟨-, -, -, hpsr, hage⟩ := State.beginStep_execute hi
  refine ⟨by rw [hpsr, hs], ?_⟩
  unfold State.olds
  rw [List.map_eq_nil_iff, List.filter_eq_nil_iff, hage]
  intro p hp
  obtain ⟨q, hq, hfield, -, -⟩ := mem_ageFlight hp
  rw [hfield]
  rcases hflight q hq with e | e <;> rw [e] <;> decide

theorem step_writesOnly {s : State} (h : s.userMode) : ∃ t, step s = .next t ∧ WritesOnly 10 s t := by
  obtain ⟨hi, hcfg, hmem, -, -⟩ := State.beginStep_execute h.1
  rw [step_of_execute hi]
  exact State.executeCycle_writesOnly h.seesUser_beginStep ((WritesOnly.refl 10 s).of_eq hcfg hmem)

/-- Settles O16: in user mode every part of a step writes only the storage behind address space 10. -/
theorem userStoresStayInUserData : Obligations.UserStoresStayInUserData := by
  unfold Obligations.UserStoresStayInUserData
  intro s t huser hwf hstep
  obtain ⟨t', ht', hwrites⟩ := step_writesOnly huser
  cases hstep.symm.trans ht'
  exact hwrites.kept hwf

end Sys2Proof.Machine

/-! ## Encoding (O1) -/

namespace Sys2Proof

/-- Settles O1: `decodeWord_encode` goes through the instruction's formats. -/
theorem decodeEncodeRoundTrip : Obligations.DecodeEncodeRoundTrip := by
  unfold Obligations.DecodeEncodeRoundTrip
  exact fun _ hwf => decodeWord_encode hwf

end Sys2Proof

/-! ## Loads and stores (O25, O26, O27, O28, O30, O43, O44, O46, O57, O58, O3)

Each instruction is one access at an address of an address space, behind guards that the hypotheses open (`AccessMeets`); each
access is what storage answers, or refuses, then the advance or the trap. -/

namespace Sys2Proof.Machine

/-! ### The instructions around an access -/

/-- In a state, an access comes to an answer with a property, at every address of every address space. -/
def AccessMeets (access : State → Byte → Word → State) (s : State) (P : Byte → Word → Out → Prop) : Prop :=
  ∀ asi a, P asi a (.next (access s asi a))

section Access
variable {access : State → Byte → Word → State} {s : State} {P : Byte → Word → Out → Prop} (h : AccessMeets access s P)
  (hq : s.quiet)
include h hq

/-- A normal access: in the mode's data space at the effective address. -/
theorem AccessMeets.normal (rs1 : Reg) (src : Operand2) :
    P s.space (s.address rs1 src) (.next (access s s.dataAsi (s.ea rs1 src))) := by
  rw [State.dataAsi_quiet hq, State.ea_quiet hq]
  exact h _ _

/-- An alternate-space access in supervisor mode: in the space named. -/
theorem AccessMeets.alternate (hs : s.psr.s = true) (rs1 rs2 : Reg) (asi : Byte) :
    P asi (s.addressA rs1 rs2) (.next (s.privileged fun s => access s asi (s.eaAlternate rs1 rs2))) := by
  rw [State.privileged_supervisor hq hs, State.eaAlternate_quiet hq]
  exact h _ _

/-- Both forms of an access. -/
theorem AccessMeets.bothForms (rs1 rs2 : Reg) (src : Operand2) (asi : Byte) :
    P s.space (s.address rs1 src) (.next (access s s.dataAsi (s.ea rs1 src))) ∧
      (s.psr.s = true →
        P asi (s.addressA rs1 rs2) (.next (s.privileged fun s => access s asi (s.eaAlternate rs1 rs2)))) :=
  ⟨h.normal hq rs1 src, fun hs => h.alternate hq hs rs1 rs2 asi⟩

/-- An access behind a guard that lets the instruction go on. -/
theorem AccessMeets.guarded {guard : State → (State → State) → State} (hg : ∀ body, guard s body = body s) (rs1 : Reg)
    (src : Operand2) :
    P s.space (s.address rs1 src) (.next (guard s fun s => access s s.dataAsi (s.ea rs1 src))) := by
  rw [hg]
  exact h.normal hq rs1 src

/-- A privileged access behind such a guard, in supervisor mode. -/
theorem AccessMeets.privileged (hs : s.psr.s = true) {guard : State → (State → State) → State}
    (hg : ∀ body, guard s body = body s) (rs1 : Reg) (src : Operand2) :
    P s.space (s.address rs1 src)
      (.next (s.privileged fun s => guard s fun s => access s s.dataAsi (s.ea rs1 src))) := by
  rw [State.privileged_supervisor hq hs]
  exact h.guarded hq hg rs1 src

omit hq in
/-- A floating-point access that waits for queued FPops, with nothing queued. -/
theorem AccessMeets.held (hready : s.fpReady) (wait : List FqEntry → Bool) (rs1 : Reg) (src : Operand2) :
    P s.space (s.address rs1 src)
      (.next (s.fpGuard fun s => s.fpHold wait fun s => access s s.dataAsi (s.ea rs1 src))) := by
  rw [State.fpGuard_ready hready, State.fpHold_ready hready]
  exact h.normal hready.1 rs1 src

end Access

theorem aligned_true {a : Word} {n : Nat} (h : a.toNat % n = 0) : aligned a n = true := by
  simp [aligned, h]

/-! ### Reading storage -/

/-- A byte of a word put together from its bytes. -/
theorem byteOfWord_wordOfBytes (b0 b1 b2 b3 : Byte) :
    byteOfWord (wordOfBytes b0 b1 b2 b3) 0 = b0 ∧ byteOfWord (wordOfBytes b0 b1 b2 b3) 1 = b1 ∧
      byteOfWord (wordOfBytes b0 b1 b2 b3) 2 = b2 ∧ byteOfWord (wordOfBytes b0 b1 b2 b3) 3 = b3 := by
  have h0 := b0.isLt
  have h1 := b1.isLt
  have h2 := b2.isLt
  have h3 := b3.isLt
  refine ⟨?_, ?_, ?_, ?_⟩ <;>
    · apply BitVec.eq_of_toNat_eq
      simp only [wordOfBytes, byteOfWord, toNat_append_add, toNat_extract]
      omega

/-- The byte of a word of memory at an address is the byte at its key (R104, R110). -/
theorem selectByte_word (m : List Host.Cell) (k : Nat) (a : Word) :
    selectByte (Memory.word m k) a = Memory.get m (k + a.toNat % 4) := by
  obtain ⟨h0, h1, h2, h3⟩ := byteOfWord_wordOfBytes (Memory.get m k) (Memory.get m (k + 1)) (Memory.get m (k + 2))
    (Memory.get m (k + 3))
  unfold selectByte Memory.word
  have hcases : a.toNat % 4 = 0 ∨ a.toNat % 4 = 1 ∨ a.toNat % 4 = 2 ∨ a.toNat % 4 = 3 := by omega
  rcases hcases with h | h | h | h <;> rw [h] <;> assumption

/-- An even address is in one half of its word or in the other. -/
theorem half_position {a : Word} (h : a.toNat % 2 = 0) :
    (a.getLsbD 1 = false ∧ a.toNat % 4 = 0) ∨ (a.getLsbD 1 = true ∧ a.toNat % 4 = 2) := by
  have hbit : a.getLsbD 1 = decide (a.toNat / 2 % 2 = 1) := by
    rw [← BitVec.testBit_toNat, Nat.testBit_eq_decide_div_mod_eq, Nat.pow_one]
  have hcases : a.toNat % 4 = 0 ∨ a.toNat % 4 = 2 := by omega
  rcases hcases with h4 | h4
  · exact .inl ⟨by rw [hbit, decide_eq_false_iff_not]; omega, h4⟩
  · exact .inr ⟨by rw [hbit, decide_eq_true_iff]; omega, h4⟩

/-- The halfword of a word of memory at an even address is the two bytes at its key (R104, R110). -/
theorem selectHalf_word (m : List Host.Cell) (k : Nat) {a : Word} (ha : a.toNat % 2 = 0) :
    selectHalf (Memory.word m k) a = Memory.get m (k + a.toNat % 4) ++ Memory.get m (k + a.toNat % 4 + 1) := by
  have halves (b0 b1 b2 b3 : Byte) : (wordOfBytes b0 b1 b2 b3).extractLsb' 16 16 = b0 ++ b1 ∧
      (wordOfBytes b0 b1 b2 b3).extractLsb' 0 16 = b2 ++ b3 := by
    have h0 := b0.isLt
    have h1 := b1.isLt
    have h2 := b2.isLt
    have h3 := b3.isLt
    refine ⟨?_, ?_⟩ <;>
      · apply BitVec.eq_of_toNat_eq
        simp only [wordOfBytes, toNat_append_add, toNat_extract]
        omega
  obtain ⟨hhigh, hlow⟩ := halves (Memory.get m k) (Memory.get m (k + 1)) (Memory.get m (k + 2)) (Memory.get m (k + 3))
  unfold selectHalf Memory.word
  rcases half_position ha with ⟨hbit, h4⟩ | ⟨hbit, h4⟩ <;> rw [hbit, h4]
  · exact hhigh
  · exact hlow

section Read
variable {s : State} {asi : Byte} {a : Word}

theorem State.readWord_located {k : Nat} (h : s.locate .read asi a = some k) :
    s.readWord asi a = (s, some (Memory.word s.mem k)) :=
  State.memoryRead_located h _

theorem State.readByte_located {k : Nat} (h : s.locate .read asi a = some k) :
    s.readByte asi a = (s, some (Memory.get s.mem (k + a.toNat % 4))) := by
  simp [State.readByte, State.memoryRead_located h, selectByte_word]

theorem State.readHalf_located {k : Nat} (h : s.locate .read asi a = some k) (ha : a.toNat % 2 = 0) :
    s.readHalf asi a = (s, some (Memory.get s.mem (k + a.toNat % 4) ++ Memory.get s.mem (k + a.toNat % 4 + 1))) := by
  simp [State.readHalf, State.memoryRead_located h, selectHalf_word _ _ ha]

end Read

/-! ### Writing storage -/

/-- The bytes from a key on are as given in the second memory, and every other byte is as in the first. -/
structure Memory.Written (m m' : List Host.Cell) (k : Nat) (bytes : List Byte) : Prop where
  holds : ∀ j (h : j < bytes.length), Memory.get m' (k + j) = bytes[j]
  kept : ∀ j, (j < k ∨ k + bytes.length ≤ j) → Memory.get m' j = Memory.get m j

/-- Bytes written behind bytes written. -/
theorem Memory.Written.append {m m1 m2 : List Host.Cell} {k : Nat} {bs cs : List Byte} (h1 : Memory.Written m m1 k bs)
    (h2 : Memory.Written m1 m2 (k + bs.length) cs) : Memory.Written m m2 k (bs ++ cs) := by
  refine ⟨fun j hj => ?_, fun j hj => ?_⟩ <;> rw [List.length_append] at hj
  · by_cases hb : j < bs.length
    · rw [h2.kept _ (by omega), h1.holds j hb, List.getElem_append_left hb]
    · have hc := h2.holds (j - bs.length) (by omega)
      rw [show k + bs.length + (j - bs.length) = k + j by omega] at hc
      rw [hc, List.getElem_append_right (by omega)]
  · rw [h2.kept _ (by omega), h1.kept _ (by omega)]

/-- A word outside the bytes written is as before. -/
theorem Memory.Written.word_kept {m m' : List Host.Cell} {k : Nat} {bytes : List Byte} (h : Memory.Written m m' k bytes)
    {i : Nat} (hi : i + 4 ≤ k ∨ k + bytes.length ≤ i) : Memory.word m' i = Memory.word m i := by
  unfold Memory.word
  rw [h.kept i (by omega), h.kept (i + 1) (by omega), h.kept (i + 2) (by omega), h.kept (i + 3) (by omega)]

section Masked
variable {m : List Host.Cell} (hwf : Memory.wf m = true) (k : Nat)
include hwf

/-- The masked write of a byte writes that byte at its address (R111). -/
theorem Memory.written_byte (a : Word) (v : Byte) :
    Memory.Written m (Memory.setMasked m k (byteMask a) (v ++ v ++ v ++ v)) (k + a.toNat % 4) [v] := by
  obtain ⟨h0, h1, h2, h3⟩ := byteOfWord_wordOfBytes v v v v
  unfold wordOfBytes at h0 h1 h2 h3
  have hcases : a.toNat % 4 = 0 ∨ a.toNat % 4 = 1 ∨ a.toNat % 4 = 2 ∨ a.toNat % 4 = 3 := by omega
  refine ⟨fun j hj => ?_, fun j hj => ?_⟩ <;> rw [Memory.get_setMasked _ _ _ _ _ hwf, h0, h1, h2, h3]
  · obtain rfl : j = 0 := by simpa using hj
    rcases hcases with h | h | h | h <;> simp [byteMask, h]
  · have hne : j ≠ k + a.toNat % 4 := by simp at hj; omega
    rcases hcases with h | h | h | h <;> simp only [h, Nat.add_zero] at hne <;> simp [byteMask, h, hne]

/-- The masked write of a halfword at an even address writes its two bytes there (R111). -/
theorem Memory.written_half {a : Word} (ha : a.toNat % 2 = 0) (v : BitVec 16) :
    Memory.Written m (Memory.setMasked m k (halfMask a) (v ++ v)) (k + a.toNat % 4)
      [v.extractLsb' 8 8, v.extractLsb' 0 8] := by
  have hlanes : v ++ v = wordOfBytes (v.extractLsb' 8 8) (v.extractLsb' 0 8) (v.extractLsb' 8 8) (v.extractLsb' 0 8) := by
    have hv := v.isLt
    apply BitVec.eq_of_toNat_eq
    simp only [wordOfBytes, toNat_append_add, toNat_extract]
    omega
  obtain ⟨h0, h1, h2, h3⟩ := byteOfWord_wordOfBytes (v.extractLsb' 8 8) (v.extractLsb' 0 8) (v.extractLsb' 8 8)
    (v.extractLsb' 0 8)
  rw [← hlanes] at h0 h1 h2 h3
  have hmask (b : Bool) (hb : a.getLsbD 1 = b) : halfMask a = if b then 0b0011#4 else 0b1100#4 := by rw [halfMask, hb]
  refine ⟨fun j hj => ?_, fun j hj => ?_⟩ <;> rw [Memory.get_setMasked _ _ _ _ _ hwf, h0, h1, h2, h3] <;>
    simp only [List.length_cons, List.length_nil] at hj
  · have hj2 : j = 0 ∨ j = 1 := by omega
    rcases half_position ha with ⟨hbit, h4⟩ | ⟨hbit, h4⟩ <;> rcases hj2 with rfl | rfl <;>
      simp [hmask _ hbit, h4, Nat.add_assoc]
  · rcases half_position ha with ⟨hbit, h4⟩ | ⟨hbit, h4⟩ <;> rw [h4] at hj
    · simp [hmask _ hbit, show j ≠ k by omega, show j ≠ k + 1 by omega]
    · simp [hmask _ hbit, show j ≠ k + 2 by omega, show j ≠ k + 3 by omega]

/-- The write of a whole word writes its four bytes (R111). -/
theorem Memory.written_word (v : Word) : Memory.Written m (Memory.setMasked m k 0b1111#4 v) k (bytesOfWord v) := by
  refine ⟨fun j hj => ?_, fun j hj => ?_⟩ <;>
    simp only [bytesOfWord, List.length_cons, List.length_nil] at hj
  · rw [Memory.get_setMasked _ _ _ _ _ hwf]
    have hcases : j = 0 ∨ j = 1 ∨ j = 2 ∨ j = 3 := by omega
    rcases hcases with rfl | rfl | rfl | rfl <;> simp [bytesOfWord]
  · exact Memory.get_setMasked_other _ _ hwf fun i hi => by omega

end Masked

/-! ### Registers of a load -/

/-- Nothing differs but the r registers. -/
def State.onlyRegsChanged (s t : State) : Prop := t = { s with globals := t.globals, windows := t.windows }

theorem State.setRegIn_only (s : State) (w : BitVec 5) (n : Reg) (v : Word) : s.onlyRegsChanged (s.setRegIn w n v) := by
  unfold State.onlyRegsChanged State.setRegIn
  split
  · rfl
  · split <;> rfl

theorem State.setReg_only (s : State) (u : Use) (n : Reg) (v : Word) : s.onlyRegsChanged (s.setReg u n v) :=
  s.setRegIn_only _ n v

theorem State.onlyRegsChanged.trans {s t u : State} (h1 : s.onlyRegsChanged t) (h2 : t.onlyRegsChanged u) :
    s.onlyRegsChanged u := by
  unfold State.onlyRegsChanged at *
  rw [h2, h1]

theorem State.setReg_holds {s : State} (hq : s.quiet) (u : Use) (n : Reg) (v : Word) :
    Holds (s.setReg u n v) s.psr.cwp n v := by
  rw [State.setReg_quiet hq]
  exact s.setRegIn_holds _ n v

theorem State.setReg_kept {s : State} (hq : s.quiet) (u : Use) (n : Reg) (v : Word) :
    RegsKeptBut s (s.setReg u n v) s.psr.cwp n := by
  rw [State.setReg_quiet hq]
  exact s.setRegIn_kept _ n v

/-- The registers of a pair differ in the last bit alone. -/
theorem oddOf_toNat : ∀ r : Reg, (oddOf r).toNat = (evenOf r).toNat + 1 ∧ (evenOf r).toNat % 2 = 0 := by decide

/-- The odd register of a pair is another cell than the even one: there is an even number of cells. -/
theorem not_sameCell_pair (cfg : Params) (w : BitVec 5) (rd : Reg) : ¬ sameCell cfg w (oddOf rd) w (evenOf rd) := by
  obtain ⟨hodd, heven⟩ := oddOf_toNat rd
  unfold sameCell
  split
  · intro h
    have := congrArg BitVec.toNat h
    omega
  · rintro ⟨h8, hcell⟩
    have hval := congrArg Fin.val hcell
    simp only [windowCell, hodd] at hval
    have hpar : ∀ x, x % (16 * nwindows cfg) % 2 = x % 2 := fun x =>
      Nat.mod_mod_of_dvd x (Dvd.dvd.mul_right (by decide) _)
    have hx := hpar ((evenOf rd).toNat + 1 - 8 + 16 * w.toNat)
    have hy := hpar ((evenOf rd).toNat - 8 + 16 * w.toNat)
    omega

/-- An instruction that writes a pair of registers, the even one first, and completes. -/
theorem writesPair_of_quiet {s : State} (hq : s.quiet) (rd : Reg) (v0 v1 : Word) :
    WritesPair s (.next ((s.setReg .rdWrite (evenOf rd) v0).setReg .rdWriteOdd (oddOf rd) v1).advance) (evenOf rd)
      (oddOf rd) v0 v1 := by
  rw [State.setReg_quiet hq, State.setReg_quiet (show (s.setRegIn _ _ v0).quiet by simpa [State.quiet] using hq)]
  simp only [State.setRegIn_psr]
  generalize hs1 : s.setRegIn s.psr.cwp (evenOf rd) v0 = s1
  have h1 : s.onlyRegsChanged s1 := hs1 ▸ s.setRegIn_only _ _ v0
  have h2 : s.onlyRegsChanged (s1.setRegIn s.psr.cwp (oddOf rd) v1) := h1.trans (s1.setRegIn_only _ _ v1)
  have hcfg : s1.cfg = s.cfg := by rw [h1]
  have hreg : ∀ w n, ((s1.setRegIn s.psr.cwp (oddOf rd) v1).advance).regIn w n =
      (s1.setRegIn s.psr.cwp (oddOf rd) v1).regIn w n := fun w n => State.regIn_congr rfl rfl rfl w n
  have hkept := s1.setRegIn_kept s.psr.cwp (oddOf rd) v1
  refine ⟨_, rfl, ?_, ?_, ?_, ?_, ?_, ?_⟩
  · constructor <;> rw [h2] <;> rfl
  · unfold Holds
    rw [hreg, hkept _ _ (not_sameCell_pair s1.cfg _ rd), ← hs1]
    exact s.setRegIn_holds _ _ v0
  · unfold Holds
    rw [hreg]
    exact s1.setRegIn_holds _ _ v1
  · intro w n heven hodd
    rw [hreg, hkept w n (by rwa [hcfg]), ← hs1]
    exact s.setRegIn_kept _ _ v0 w n heven
  · intro k
    rw [h2]; rfl
  · unfold OnlyRegs
    rw [h2]; rfl

/-! ### Integer loads -/

section Loads
variable {s : State} (hq : s.quiet) (rd : Reg) (k : Nat)
include hq

theorem loadSignedByte_located : AccessMeets (fun s asi a => s.loadSignedByte asi a rd) s fun asi a o =>
    s.locate .read asi a = some k → WritesReg s o rd ((Memory.get s.mem (k + a.toNat % 4)).signExtend 32) := by
  intro asi a hl
  simpa [State.loadSignedByte, State.loadReg, State.readByte_located hl] using writesReg_of_quiet hq .rdWrite rd _

theorem loadUnsignedByte_located : AccessMeets (fun s asi a => s.loadUnsignedByte asi a rd) s fun asi a o =>
    s.locate .read asi a = some k → WritesReg s o rd ((Memory.get s.mem (k + a.toNat % 4)).setWidth 32) := by
  intro asi a hl
  simpa [State.loadUnsignedByte, State.loadReg, State.readByte_located hl] using writesReg_of_quiet hq .rdWrite rd _

theorem loadSignedHalf_located : AccessMeets (fun s asi a => s.loadSignedHalf asi a rd) s fun asi a o =>
    s.locate .read asi a = some k → a.toNat % 2 = 0 → WritesReg s o rd
      ((Memory.get s.mem (k + a.toNat % 4) ++ Memory.get s.mem (k + a.toNat % 4 + 1)).signExtend 32) := by
  intro asi a hl ha
  simpa [State.loadSignedHalf, State.loadReg, aligned_true ha, State.readHalf_located hl ha] using
    writesReg_of_quiet hq .rdWrite rd _

theorem loadUnsignedHalf_located : AccessMeets (fun s asi a => s.loadUnsignedHalf asi a rd) s fun asi a o =>
    s.locate .read asi a = some k → a.toNat % 2 = 0 → WritesReg s o rd
      ((Memory.get s.mem (k + a.toNat % 4) ++ Memory.get s.mem (k + a.toNat % 4 + 1)).setWidth 32) := by
  intro asi a hl ha
  simpa [State.loadUnsignedHalf, State.loadReg, aligned_true ha, State.readHalf_located hl ha] using
    writesReg_of_quiet hq .rdWrite rd _

theorem loadWord_located : AccessMeets (fun s asi a => s.loadWord asi a rd) s fun asi a o =>
    s.locate .read asi a = some k → a.toNat % 4 = 0 → WritesReg s o rd (Memory.word s.mem k) := by
  intro asi a hl ha
  simpa [State.loadWord, State.loadReg, aligned_true ha, State.readWord_located hl] using
    writesReg_of_quiet hq .rdWrite rd _

theorem loadDouble_located (k' : Nat) : AccessMeets (fun s asi a => s.loadDouble asi a rd) s fun asi a o =>
    s.locate .read asi a = some k → s.locate .read asi (a + 4) = some k' → a.toNat % 8 = 0 →
      WritesPair s o (evenOf rd) (oddOf rd) (Memory.word s.mem k) (Memory.word s.mem k') := by
  intro asi a hl hl' ha
  have h2 : (s.setReg .rdWrite (evenOf rd) (Memory.word s.mem k)).locate .read asi (a + 4) = some k' := by
    rwa [State.locate_congr (s := s) (by simp)]
  have hr := State.readWord_located h2
  simp only [State.setReg_mem] at hr
  simp only [State.loadDouble, aligned_true ha, if_true, State.readWord_located hl, hr]
  exact writesPair_of_quiet hq rd _ _

end Loads

/-- Settles O25: each load is its access (`AccessMeets`), in the mode's data space or in the space named. -/
theorem integerLoads : Obligations.IntegerLoads := by
  unfold Obligations.IntegerLoads
  refine ⟨fun s rd rs1 src k hq => ?_, fun s rd rs1 rs2 asi k hq hs => ?_⟩ <;> intro a hl
  · exact ⟨(loadSignedByte_located hq rd k).normal hq rs1 src hl, (loadUnsignedByte_located hq rd k).normal hq rs1 src hl,
      (loadSignedHalf_located hq rd k).normal hq rs1 src hl, (loadUnsignedHalf_located hq rd k).normal hq rs1 src hl,
      (loadWord_located hq rd k).normal hq rs1 src hl⟩
  · exact ⟨(loadSignedByte_located hq rd k).alternate hq hs rs1 rs2 asi hl,
      (loadUnsignedByte_located hq rd k).alternate hq hs rs1 rs2 asi hl,
      (loadSignedHalf_located hq rd k).alternate hq hs rs1 rs2 asi hl,
      (loadUnsignedHalf_located hq rd k).alternate hq hs rs1 rs2 asi hl,
      (loadWord_located hq rd k).alternate hq hs rs1 rs2 asi hl⟩

/-- Settles O26: the even register is written between the two accesses, neither of which it moves. -/
theorem doublewordLoads : Obligations.DoublewordLoads := by
  unfold Obligations.DoublewordLoads
  intro s rd rs1 rs2 src asi k k' hq
  exact ⟨(loadDouble_located hq rd k k').normal hq rs1 src,
    fun hs => (loadDouble_located hq rd k k').alternate hq hs rs1 rs2 asi⟩

/-! ### Stores -/

/-- Nothing differs but memory and the words noted as stored to. -/
def State.onlyStored (s t : State) : Prop := t = { s with mem := t.mem, stale := t.stale }

theorem State.onlyStored.trans {s t u : State} (h1 : s.onlyStored t) (h2 : t.onlyStored u) : s.onlyStored u := by
  unfold State.onlyStored at *
  rw [h2, h1]

/-- The state after the masked write of a word of storage at its key (R111). -/
def State.stored (s : State) (k : Nat) (mask : BitVec 4) (v : Word) : State :=
  { s.noteStale k with mem := Memory.setMasked s.mem k mask v }

section Stored
variable (s : State) (k : Nat) (mask : BitVec 4) (v : Word)

theorem State.stored_only : s.onlyStored (s.stored k mask v) := by
  unfold State.onlyStored State.stored State.noteStale
  split <;> rfl

@[simp] theorem State.stored_mem : (s.stored k mask v).mem = Memory.setMasked s.mem k mask v := rfl

theorem State.stored_stale :
    (s.stored k mask v).stale = (if s.cached then [⟨k, Memory.word s.mem k, false⟩] else []) ++ s.stale := by
  simp only [State.stored, State.noteStale]
  split <;> simp

theorem State.stored_fpu : (s.stored k mask v).fpu = s.fpu := by rw [s.stored_only k mask v]

theorem State.stored_cp : (s.stored k mask v).cp = s.cp := by rw [s.stored_only k mask v]

theorem State.stored_unflushed : (s.stored k mask v).unflushed = s.noted [k] := s.noteStale_retired k

end Stored

/-- A word address is the address of the word it is in. -/
theorem wordAddress_of_wordAligned {a : Word} (h : wordAligned a) : wordAddress a = a := by
  obtain ⟨h0, h1⟩ := (wordAligned_bits a).1 h
  have hmask : ∀ i, i < 32 → 2 ≤ i → (0xFFFFFFFC#32).getLsbD i = true := by decide
  apply BitVec.eq_of_getLsbD_eq
  intro i hi
  rw [wordAddress, BitVec.getLsbD_and]
  by_cases h2 : 2 ≤ i
  · rw [hmask i hi h2, Bool.and_true]
  · have hcases : i = 0 ∨ i = 1 := by omega
    rcases hcases with rfl | rfl
    · rw [h0, Bool.false_and]
    · rw [h1, Bool.false_and]

section Write
variable {s : State} {asi : Byte} {a : Word} {k : Nat} (hl : s.locate .write asi a = some k)
include hl

theorem State.writeByte_located (v : Byte) : s.writeByte asi a v = some (s.stored k (byteMask a) (v ++ v ++ v ++ v)) :=
  State.memoryWrite_located hl

theorem State.writeHalf_located (v : BitVec 16) : s.writeHalf asi a v = some (s.stored k (halfMask a) (v ++ v)) :=
  State.memoryWrite_located hl

theorem State.writeWord_located (v : Word) : s.writeWord asi a v = some (s.stored k 0b1111#4 v) :=
  State.memoryWrite_located hl

/-- The second word of a doubleword in storage is right behind the first. -/
theorem State.locate_second (ha : a.toNat % 8 = 0) (hn : s.locate .write asi (a + 4) ≠ none) :
    s.locate .write asi (a + 4) = some (k + 4) := by
  obtain ⟨k', hk'⟩ := Option.ne_none_iff_exists'.1 hn
  have key {b : Word} {j : Nat} (hb : b.toNat % 4 = 0) (h : s.locate .write asi b = some j) :
      ∃ bank, bankOf s.cfg asi = some bank ∧ j = bank * 2 ^ 32 + b.toNat := by
    unfold State.locate at h
    split at h
    · cases h
    · obtain ⟨bank, hbank, rfl⟩ := Option.map_eq_some_iff.1 h
      exact ⟨bank, hbank, by rw [memoryKey, wordAddress_of_wordAligned hb]⟩
  have hsum : (a + 4).toNat = a.toNat + 4 := by bv_omega
  obtain ⟨bank, hbank, rfl⟩ := key (by omega) hl
  obtain ⟨bank', hbank', rfl⟩ := key (by omega) hk'
  rw [hbank, Option.some_inj] at hbank'
  rw [hk', hsum, hbank', Nat.add_assoc]

/-- So it is once the first has been stored. -/
theorem State.locate_stored (ha : a.toNat % 8 = 0) (hn : s.locate .write asi (a + 4) ≠ none) (v : Word) :
    (s.stored k 0b1111#4 v).locate .write asi (a + 4) = some (k + 4) := by
  rw [s.stored_only k 0b1111#4 v]
  exact State.locate_second hl ha hn

end Write

/-- The state after two words stored one behind the other. -/
def State.storedPair (s : State) (k : Nat) (v0 v1 : Word) : State :=
  (s.stored k 0b1111#4 v0).stored (k + 4) 0b1111#4 v1

section StoredPair
variable (s : State) (k : Nat) (v0 v1 : Word)

theorem State.storedPair_only : s.onlyStored (s.storedPair k v0 v1) :=
  (s.stored_only k 0b1111#4 v0).trans (State.stored_only _ _ _ _)

variable (hwf : Memory.wf s.mem = true)
include hwf

theorem State.storedPair_written : Memory.Written s.mem (s.storedPair k v0 v1).mem k (bytesOfWord v0 ++ bytesOfWord v1) :=
  (Memory.written_word hwf k v0).append (Memory.written_word (Memory.setMasked_wf _ _ _ _ hwf) (k + 4) v1)

/-- Both words are noted with what they held before either was stored. -/
theorem State.storedPair_unflushed : (s.storedPair k v0 v1).unflushed = s.noted [k + 4, k] := by
  have hword : Memory.word (Memory.setMasked s.mem k 0b1111#4 v0) (k + 4) = Memory.word s.mem (k + 4) :=
    (Memory.written_word hwf k v0).word_kept (.inr (Nat.le_refl _))
  have hcached : (s.stored k 0b1111#4 v0).cached = s.cached := by rw [s.stored_only k 0b1111#4 v0]; rfl
  unfold State.storedPair
  rw [State.stored_unflushed]
  unfold State.noted
  rw [hcached, State.stored_unflushed, State.noted]
  cases s.cached <;> simp [hword]

theorem State.storedPair_words :
    Memory.word (s.storedPair k v0 v1).mem k = v0 ∧ Memory.word (s.storedPair k v0 v1).mem (k + 4) = v1 ∧
      MemKeptBut s (s.storedPair k v0 v1) k 8 := by
  have hwf1 := Memory.setMasked_wf s.mem k 0b1111#4 v0 hwf
  refine ⟨?_, Memory.word_setMasked _ _ _ hwf1, (s.storedPair_written k v0 v1 hwf).kept⟩
  have hkept := (Memory.written_word hwf1 (k + 4) v1).word_kept (i := k) (.inl (Nat.le_refl _))
  exact hkept.trans (Memory.word_setMasked _ _ _ hwf)

end StoredPair

/-- An operation that only stored bytes from a key on, and the advance. -/
theorem storesBytes_of_written {s u : State} {k : Nat} {bytes : List Byte} (hu : s.onlyStored u)
    (hw : Memory.Written s.mem u.mem k bytes)
    (hst : u.unflushed = s.noted (if bytes.length = 8 then [k + 4, k] else [k - k % 4])) :
    StoresBytes s (.next u.advance) k bytes := by
  refine ⟨_, rfl, ⟨?_, ?_⟩, hw.holds, hw.kept, hst, ?_, ?_⟩
  · rw [hu]; rfl
  · rw [hu]; rfl
  · intro w n
    apply State.regIn_congr <;> rw [hu] <;> rfl
  · unfold OnlyMem
    rw [hu]; rfl

/-- A store into one word of storage. -/
theorem storesBytes_stored {s : State} {k j : Nat} {mask : BitVec 4} {v : Word} {bytes : List Byte} (hk : k % 4 = 0)
    (hj : j < 4) (hw : Memory.Written s.mem (Memory.setMasked s.mem k mask v) (k + j) bytes) (hlen : bytes.length ≠ 8) :
    StoresBytes s (.next (s.stored k mask v).advance) (k + j) bytes := by
  refine storesBytes_of_written (s.stored_only k mask v) hw ?_
  rw [if_neg hlen, State.stored_unflushed, show k + j - (k + j) % 4 = k by omega]

/-- A store of two words of storage. -/
theorem storesBytes_storedPair {s : State} (hwf : Memory.wf s.mem = true) (k : Nat) (v0 v1 : Word) :
    StoresBytes s (.next (s.storedPair k v0 v1).advance) k (bytesOfWord v0 ++ bytesOfWord v1) :=
  storesBytes_of_written (s.storedPair_only k v0 v1) (s.storedPair_written k v0 v1 hwf) (s.storedPair_unflushed k v0 v1 hwf)

/-- A store of two words, where storage answers both accesses. -/
theorem State.storePair_located {s : State} {asi : Byte} {a : Word} {k : Nat} (v0 v1 : Word)
    (hl : s.locate .write asi a = some k) (ha : a.toNat % 8 = 0) (hn : s.locate .write asi (a + 4) ≠ none) :
    s.storePair asi a v0 v1 = (s.storedPair k v0 v1).advance := by
  simp only [State.storePair, aligned_true ha, if_true, State.writeWord_located hl,
    State.writeWord_located (State.locate_stored hl ha hn v0), State.storedPair]

section Stores
variable {s : State} (hwf : Memory.wf s.mem = true) (k : Nat)
include hwf

/-- A store of a word, whatever the word. -/
theorem storeOfWord_located (v : State → Word) :
    AccessMeets (fun s asi a => s.store (aligned a 4) (s.writeWord asi a (v s))) s fun asi a o =>
      s.locate .write asi a = some k → a.toNat % 4 = 0 → StoresBytes s o k (bytesOfWord (v s)) := by
  intro asi a hl ha
  simp only [aligned_true ha]
  exact storesBytes_of_located hwf (v s) hl

/-- A store of two words, whatever they are. -/
theorem storeOfPair_located (v0 v1 : State → Word) :
    AccessMeets (fun s asi a => s.storePair asi a (v0 s) (v1 s)) s fun asi a o =>
      s.locate .write asi a = some k → a.toNat % 8 = 0 → s.locate .write asi (a + 4) ≠ none →
        StoresBytes s o k (bytesOfWord (v0 s) ++ bytesOfWord (v1 s)) := by
  intro asi a hl ha hn
  simp only [State.storePair_located _ _ hl ha hn]
  exact storesBytes_storedPair hwf k _ _

variable (hq : s.quiet) (rd : Reg)
include hq

theorem storeByte_located : AccessMeets (fun s asi a => s.storeByte asi a rd) s fun asi a o =>
    s.locate .write asi a = some k → StoresBytes s o (k + a.toNat % 4) [(s.r rd).extractLsb' 0 8] := by
  intro asi a hl
  simp only [State.storeByte, State.writeByte_located hl, State.store, if_true, State.reg_quiet hq,
    BitVec.setWidth_eq_extractLsb' (show 8 ≤ 32 by decide)]
  exact storesBytes_stored (State.locate_mod_four hl) (Nat.mod_lt _ (by decide)) (Memory.written_byte hwf k a _) (by simp)

theorem storeHalf_located : AccessMeets (fun s asi a => s.storeHalf asi a rd) s fun asi a o =>
    s.locate .write asi a = some k → a.toNat % 2 = 0 →
      StoresBytes s o (k + a.toNat % 4) [(s.r rd).extractLsb' 8 8, (s.r rd).extractLsb' 0 8] := by
  intro asi a hl ha
  have hbytes : ∀ j, j + 8 ≤ 16 → ((s.r rd).setWidth 16).extractLsb' j 8 = (s.r rd).extractLsb' j 8 := by
    intro j hj
    apply BitVec.eq_of_getLsbD_eq
    intro i hi
    simp [hi, show j + i < 16 by omega]
  have hw := Memory.written_half hwf k ha ((s.r rd).setWidth 16)
  rw [hbytes 8 (by decide), hbytes 0 (by decide)] at hw
  simp only [State.storeHalf, State.writeHalf_located hl, State.store, aligned_true ha, if_true, State.reg_quiet hq]
  exact storesBytes_stored (State.locate_mod_four hl) (Nat.mod_lt _ (by decide)) hw (by simp)

theorem storeWord_located : AccessMeets (fun s asi a => s.storeWord asi a rd) s fun asi a o =>
    s.locate .write asi a = some k → a.toNat % 4 = 0 → StoresBytes s o k (bytesOfWord (s.r rd)) := by
  rw [← State.reg_quiet hq .rdRead]
  exact storeOfWord_located hwf k fun s => s.reg .rdRead rd

theorem storeDouble_located : AccessMeets (fun s asi a => s.storeDouble asi a rd) s fun asi a o =>
    s.locate .write asi a = some k → a.toNat % 8 = 0 → s.locate .write asi (a + 4) ≠ none →
      StoresBytes s o k (bytesOfWord (s.r (evenOf rd)) ++ bytesOfWord (s.r (oddOf rd))) := by
  rw [← State.reg_quiet hq .rdRead, ← State.reg_quiet hq .rdReadOdd]
  exact storeOfPair_located hwf k (fun s => s.reg .rdRead (evenOf rd)) fun s => s.reg .rdReadOdd (oddOf rd)

end Stores

/-- Settles O27: each store is its access (`AccessMeets`), which writes the bytes of its datum (`Memory.Written`). -/
theorem integerStores : Obligations.IntegerStores := by
  unfold Obligations.IntegerStores
  refine ⟨fun s rd rs1 src k hwf hq => ?_, fun s rd rs1 rs2 asi k hwf hq hs => ?_⟩ <;> intro a hl
  · exact ⟨(storeByte_located hwf k hq rd).normal hq rs1 src hl, (storeHalf_located hwf k hq rd).normal hq rs1 src hl,
      (storeWord_located hwf k hq rd).normal hq rs1 src hl, (storeDouble_located hwf k hq rd).normal hq rs1 src hl⟩
  · exact ⟨(storeByte_located hwf k hq rd).alternate hq hs rs1 rs2 asi hl,
      (storeHalf_located hwf k hq rd).alternate hq hs rs1 rs2 asi hl,
      (storeWord_located hwf k hq rd).alternate hq hs rs1 rs2 asi hl,
      (storeDouble_located hwf k hq rd).alternate hq hs rs1 rs2 asi hl⟩

/-! ### Exchanges -/

/-- A register loaded, then a store into one word of storage, and the advance. -/
theorem exchanges_stored {s : State} (hq : s.quiet) (rd : Reg) (v : Word) {k j : Nat} {mask : BitVec 4} {w : Word}
    {bytes : List Byte} (hk : k % 4 = 0) (hj : j < 4)
    (hw : Memory.Written s.mem (Memory.setMasked s.mem k mask w) (k + j) bytes) :
    Exchanges s (.next ((s.setReg .rdWrite rd v).stored k mask w).advance) rd v (k + j) bytes := by
  have hholds := State.setReg_holds hq .rdWrite rd v
  have hkept := State.setReg_kept hq .rdWrite rd v
  have hregs := s.setReg_only .rdWrite rd v
  generalize s.setReg .rdWrite rd v = u at hholds hkept hregs ⊢
  have hmem : u.mem = s.mem := by rw [hregs]
  have hstored := u.stored_only k mask w
  have hunflushed : (u.stored k mask w).unflushed = s.noted [k] := by
    rw [State.stored_unflushed, hregs]; rfl
  have hwritten : (u.stored k mask w).mem = Memory.setMasked s.mem k mask w := by rw [State.stored_mem, hmem]
  generalize u.stored k mask w = t at hstored hunflushed hwritten ⊢
  have ht : t = { s with mem := t.mem, stale := t.stale, globals := t.globals, windows := t.windows } := by
    rw [hstored, hregs]
  have hreg : ∀ w n, t.advance.regIn w n = u.regIn w n := fun w n => by
    apply State.regIn_congr <;> rw [hstored] <;> rfl
  rw [← hwritten] at hw
  refine ⟨_, rfl, ⟨?_, ?_⟩, ?_, ?_, hw.holds, hw.kept, ?_, ?_⟩
  · rw [ht]; rfl
  · rw [ht]; rfl
  · unfold Holds
    rw [hreg]
    exact hholds
  · intro w n hn
    rw [hreg]
    exact hkept w n hn
  · rw [show k + j - (k + j) % 4 = k by omega]
    exact hunflushed
  · unfold OnlyMemRegs
    rw [ht]; rfl

section Exchanges
variable {s : State} (hwf : Memory.wf s.mem = true) (hq : s.quiet) (rd : Reg) (k : Nat)
include hwf hq

theorem loadStoreByte_located : AccessMeets (fun s asi a => s.loadStoreByte asi a rd) s fun asi a o =>
    s.locate .read asi a = some k → s.locate .write asi a = some k →
      Exchanges s o rd ((Memory.get s.mem (k + a.toNat % 4)).setWidth 32) (k + a.toNat % 4) [0xFF#8] := by
  intro asi a hr hw
  have hw2 (v : Word) : (s.setReg .rdWrite rd v).locate .write asi a = some k := by
    rwa [State.locate_congr (s := s) (by simp)]
  simp only [State.loadStoreByte, State.readByte_located hr, State.writeByte_located (hw2 _)]
  exact exchanges_stored hq rd _ (State.locate_mod_four hr) (Nat.mod_lt _ (by decide)) (Memory.written_byte hwf k a _)

theorem swapWord_located : AccessMeets (fun s asi a => s.swapWord asi a rd) s fun asi a o =>
    s.locate .read asi a = some k → s.locate .write asi a = some k → a.toNat % 4 = 0 →
      Exchanges s o rd (Memory.word s.mem k) k (bytesOfWord (s.r rd)) := by
  intro asi a hr hw ha
  have hw2 (v : Word) : (s.setReg .rdWrite rd v).locate .write asi a = some k := by
    rwa [State.locate_congr (s := s) (by simp)]
  simp only [State.swapWord, aligned_true ha, if_true, State.readWord_located hr, State.writeWord_located (hw2 _),
    State.reg_quiet hq]
  exact exchanges_stored hq rd _ (j := 0) (State.locate_mod_four hr) (by decide) (Memory.written_word hwf k _)

end Exchanges

/-- Settles O28: the read and the write of each are at one key, with the register written between them. -/
theorem atomicExchanges : Obligations.AtomicExchanges := by
  unfold Obligations.AtomicExchanges
  intro s rd rs1 rs2 src asi k hwf hq
  have hbyte := loadStoreByte_located hwf hq rd k
  have hword := swapWord_located hwf hq rd k
  exact ⟨fun hr hw => ⟨hbyte.normal hq rs1 src hr hw, hword.normal hq rs1 src hr hw⟩,
    fun hs hr hw => ⟨hbyte.alternate hq hs rs1 rs2 asi hr hw, hword.alternate hq hs rs1 rs2 asi hr hw⟩⟩

/-! ### Floating-point loads and stores -/

theorem pairHigh_ne_pairLow : ∀ r : Reg, pairHigh r ≠ pairLow r := by decide

theorem State.loadFreg_execute {s : State} (hm : s.fpu.mode = .execute) (n : Nat) (r : Reg) (v : Word) :
    s.loadFreg n r v = s.setFreg r v := by
  simp [State.loadFreg, hm]

theorem State.loadDone_execute (s : State) : s.loadDone .execute = s.advance := by
  simp [State.loadDone]

/-- The f registers of a pair after both were written. -/
theorem State.freg_setFreg_pair (s : State) (rd : Reg) (v0 v1 : Word) :
    ((s.setFreg (pairHigh rd) v0).setFreg (pairLow rd) v1).freg (pairHigh rd) = v0 ∧
      ((s.setFreg (pairHigh rd) v0).setFreg (pairLow rd) v1).freg (pairLow rd) = v1 ∧
      FregsKeptBut s ((s.setFreg (pairHigh rd) v0).setFreg (pairLow rd) v1) [pairHigh rd, pairLow rd] := by
  refine ⟨?_, ?_, fun n hn => ?_⟩ <;> rw [State.freg_setFreg]
  · rw [if_neg (pairHigh_ne_pairLow rd), State.freg_setFreg, if_pos rfl]
  · rw [if_pos rfl]
  · obtain ⟨h0, h1⟩ : n ≠ pairHigh rd ∧ n ≠ pairLow rd := by simpa using hn
    rw [if_neg h1, State.freg_setFreg, if_neg h0]

section FpLoads
variable {s : State} (hm : s.fpu.mode = .execute) {asi : Byte} {a : Word} {k : Nat} (hl : s.locate .read asi a = some k)
  (rd : Reg)
include hm hl

theorem State.loadSingleFp_located (ha : a.toNat % 4 = 0) :
    s.loadSingleFp asi a rd = (s.setFreg rd (Memory.word s.mem k)).advance := by
  simp only [State.loadSingleFp, aligned_true ha, if_true, State.readWord_located hl, State.loadFreg_execute hm, hm,
    State.loadDone_execute]

theorem State.loadDoubleFp_located {k' : Nat} (ha : a.toNat % 8 = 0) (hl' : s.locate .read asi (a + 4) = some k') :
    s.loadDoubleFp asi a rd =
      ((s.setFreg (pairHigh rd) (Memory.word s.mem k)).setFreg (pairLow rd) (Memory.word s.mem k')).advance := by
  have hm1 : (s.setFreg (pairHigh rd) (Memory.word s.mem k)).fpu.mode = .execute := hm
  simp only [State.loadDoubleFp, aligned_true ha, if_true, State.readWord_located hl, State.readWord_located hl',
    State.loadFreg_execute hm, State.loadFreg_execute hm1, hm, State.loadDone_execute]

end FpLoads

section FpLoads
variable {s : State} (hm : s.fpu.mode = .execute) (rd : Reg) (k : Nat)
include hm

theorem loadSingleFp_located : AccessMeets (fun s asi a => s.loadSingleFp asi a rd) s fun asi a o =>
    s.locate .read asi a = some k → a.toNat % 4 = 0 →
      ∃ t, o = .next t ∧ Advanced s t ∧ RegsKept s t ∧ MemKept s t ∧ OnlyFpu s t ∧ t.freg rd = Memory.word s.mem k ∧
        FregsKeptBut s t [rd] ∧ t.fpu = { s.fpu with f := t.fpu.f } := by
  intro asi a hl ha
  have hfreg := s.freg_setFreg rd
  simp only [State.loadSingleFp_located hm hl rd ha]
  obtain ⟨hadv, hregs, hmem, honly⟩ := (s.setFreg_only rd (Memory.word s.mem k)).advance
  refine ⟨_, rfl, hadv, hregs, hmem, honly, ?_, fun n hn => ?_, rfl⟩
  · exact (hfreg rd _).trans (if_pos rfl)
  · exact (hfreg n _).trans (if_neg (by simpa using hn))

theorem loadDoubleFp_located (k' : Nat) : AccessMeets (fun s asi a => s.loadDoubleFp asi a rd) s fun asi a o =>
    s.locate .read asi a = some k → a.toNat % 8 = 0 → s.locate .read asi (a + 4) = some k' →
      ∃ t, o = .next t ∧ Advanced s t ∧ RegsKept s t ∧ MemKept s t ∧ OnlyFpu s t ∧
        t.freg (pairHigh rd) = Memory.word s.mem k ∧ t.freg (pairLow rd) = Memory.word s.mem k' ∧
        FregsKeptBut s t [pairHigh rd, pairLow rd] ∧ t.fpu = { s.fpu with f := t.fpu.f } := by
  intro asi a hl ha hl'
  simp only [State.loadDoubleFp_located hm hl rd ha hl']
  obtain ⟨hadv, hregs, hmem, honly⟩ :=
    ((s.setFreg_only (pairHigh rd) (Memory.word s.mem k)).trans
      (State.setFreg_only _ (pairLow rd) (Memory.word s.mem k'))).advance
  obtain ⟨hhigh, hlow, hkept⟩ := s.freg_setFreg_pair rd (Memory.word s.mem k) (Memory.word s.mem k')
  exact ⟨_, rfl, hadv, hregs, hmem, honly, hhigh, hlow, hkept, rfl⟩

end FpLoads

/-- Settles O43: with the FPU ready no wait and no sequence error comes into a load, which only writes f registers. -/
theorem floatingLoads : Obligations.FloatingLoads := by
  unfold Obligations.FloatingLoads
  intro s rd rs1 src k hready
  have ⟨_, _, _, hm, _⟩ := hready
  exact fun hl => ⟨(loadSingleFp_located hm rd k).held hready (waitUse [rd]) rs1 src hl,
    fun k' => (loadDoubleFp_located hm rd k k').held hready (waitUse [pairHigh rd, pairLow rd]) rs1 src hl⟩

/-- Settles O44: with the FPU ready a store is that of one word or of two. -/
theorem floatingStores : Obligations.FloatingStores := by
  unfold Obligations.FloatingStores
  intro s rd rs1 src k hwf hready
  exact fun hl => ⟨(storeOfWord_located hwf k fun s => s.freg rd).held hready (waitWrite [rd]) rs1 src hl,
    (storeOfPair_located hwf k (fun s => s.freg (pairHigh rd)) fun s => s.freg (pairLow rd)).held hready
      (waitWrite [pairHigh rd, pairLow rd]) rs1 src hl⟩

/-! ### The floating-point queue -/

/-- In exception mode the front entry leaves the queue; with the last one the FPU is in execute mode again. -/
theorem State.dequeue_exception {s : State} (hm : s.fpu.mode = .exception) (rest : List FqEntry) :
    s.dequeue rest =
      { s with fpu := { s.fpu with queue := rest, mode := if rest = [] then .execute else .exception,
                                   fsr := { s.fpu.fsr with qne := decide (rest ≠ []) } } } := by
  unfold State.dequeue
  rw [if_pos hm]
  cases rest with
  | nil => rfl
  | cons e rest =>
    rw [if_neg (List.cons_ne_nil e rest), ← hm]
    rfl

/-- A store neither sees nor changes the FPU. -/
theorem State.stored_setFpu (s : State) (u : Fpu) (k : Nat) (mask : BitVec 4) (v : Word) :
    State.stored { s with fpu := u } k mask v = { s.stored k mask v with fpu := u } := by
  have hnote : State.noteStale { s with fpu := u } k = { s.noteStale k with fpu := u } := by
    unfold State.noteStale
    rw [show State.cached { s with fpu := u } = s.cached from rfl]
    split <;> rfl
  unfold State.stored
  rw [hnote]

/-- The entry may be removed before a store or after it. -/
theorem State.dequeue_stored {s : State} (hm : s.fpu.mode = .exception) (rest : List FqEntry) (k : Nat) (mask : BitVec 4)
    (v : Word) : (s.dequeue rest).stored k mask v = (s.stored k mask v).dequeue rest := by
  rw [State.dequeue_exception hm, State.stored_setFpu, State.dequeue_exception (by rw [State.stored_fpu, hm]),
    State.stored_fpu]

/-- A store of the queue's front entry in exception mode, where storage answers both accesses. -/
theorem State.storeQueue_located {s : State} {asi : Byte} {a : Word} {k : Nat} {e : FqEntry} {rest : List FqEntry}
    (hm : s.fpu.mode = .exception) (hqueue : s.fpu.queue = e :: rest) (hl : s.locate .write asi a = some k)
    (ha : a.toNat % 8 = 0) (hn : s.locate .write asi (a + 4) ≠ none) :
    s.storeQueue asi a = ((s.storedPair k e.addr e.instr).dequeue rest).advance := by
  have hm1 : (s.stored k 0b1111#4 e.addr).fpu.mode = .exception := by rw [State.stored_fpu, hm]
  have hl2 : ((s.stored k 0b1111#4 e.addr).dequeue rest).locate .write asi (a + 4) = some (k + 4) := by
    rw [State.dequeue_exception hm1, s.stored_only k 0b1111#4 e.addr]
    exact State.locate_second hl ha hn
  simp only [State.storeQueue, aligned_true ha, if_true, State.queueWords_exception hm hqueue, State.writeWord_located hl,
    State.stored_fpu, hqueue, State.writeWord_located hl2, State.dequeue_stored hm1, State.storedPair]

theorem storeQueue_located {s : State} (hwf : Memory.wf s.mem = true) (k : Nat) {e : FqEntry} {rest : List FqEntry}
    (hm : s.fpu.mode = .exception) (hqueue : s.fpu.queue = e :: rest) : AccessMeets State.storeQueue s fun asi a o =>
      a.toNat % 8 = 0 → s.locate .write asi a = some k → s.locate .write asi (a + 4) ≠ none →
        ∃ t, o = .next t ∧ Advanced s t ∧ RegsKept s t ∧
          (Memory.word t.mem k = e.addr ∧ Memory.word t.mem (k + 4) = e.instr ∧ MemKeptBut s t k 8) ∧
          t.fpu = { s.fpu with queue := rest, mode := if rest = [] then .execute else .exception,
                               fsr := { s.fpu.fsr with qne := decide (rest ≠ []) } } ∧
          t.stale = s.noted [k + 4, k] ∧
          t = { s with pc := t.pc, npc := t.npc, prev := s.current, stale := t.stale, mem := t.mem, fpu := t.fpu } := by
  intro asi a ha hl hn
  have hwords := s.storedPair_words k e.addr e.instr hwf
  have hnoted := s.storedPair_unflushed k e.addr e.instr hwf
  have honly := s.storedPair_only k e.addr e.instr
  rw [State.storeQueue_located hm hqueue hl ha hn]
  generalize s.storedPair k e.addr e.instr = u at hwords hnoted honly ⊢
  have hfpu : u.fpu = s.fpu := by rw [honly]
  rw [State.dequeue_exception (by rw [hfpu, hm]), hfpu]
  refine ⟨_, rfl, ⟨?_, ?_⟩, ?_, hwords, rfl, hnoted, ?_⟩
  · rw [honly]; rfl
  · rw [honly]; rfl
  · intro w n
    apply State.regIn_congr <;> rw [honly] <;> rfl
  · rw [honly]; rfl

/-- Settles O46: STDFQ is a store of two words, and the front entry leaves the queue. -/
theorem storeFloatingQueue : Obligations.StoreFloatingQueue := by
  unfold Obligations.StoreFloatingQueue
  intro s rs1 src k e rest hwf hq hs hef hp hm hqueue
  exact (storeQueue_located hwf k hm hqueue).privileged hq hs
    (State.fpGuard_enabled hq hef hp (by rw [hm]; decide)) rs1 src

/-! ### Coprocessor loads, stores and operations -/

/-- Nothing differs but the coprocessor. -/
def State.onlyCpChanged (s t : State) : Prop := t = { s with cp := t.cp }

/-- An operation of the coprocessor, and the advance, keep everything outside the coprocessor. -/
theorem State.onlyCpChanged.advance {s t : State} (h : s.onlyCpChanged t) :
    Advanced s t.advance ∧ RegsKept s t.advance ∧ MemKept s t.advance ∧ OnlyCp s t.advance := by
  unfold State.onlyCpChanged at h
  refine ⟨⟨?_, ?_⟩, ?_, ?_, ?_⟩
  · rw [h]; rfl
  · rw [h]; rfl
  · intro w n
    apply State.regIn_congr <;> rw [h] <;> rfl
  · intro k
    rw [h]; rfl
  · unfold OnlyCp
    rw [h]; rfl

/-- A register of the coprocessor reads as written, and every other one as before. -/
theorem State.creg_setCreg (s : State) (n m : Reg) (v : Word) :
    (s.setCreg n v).creg m = if m = n then v else s.creg m := by
  have h := vector_get_set s.cp.c n.toFin m.toFin v
  have e : n.toFin = m.toFin ↔ m = n :=
    ⟨fun q => BitVec.eq_of_toFin_eq q.symm, fun q => by rw [q]⟩
  simp only [e] at h
  exact h

theorem evenOf_ne_oddOf : ∀ r : Reg, evenOf r ≠ oddOf r := by decide

/-- The registers of a pair after both were written. -/
theorem State.creg_setCreg_pair (s : State) (rd : Reg) (v0 v1 : Word) :
    ((s.setCreg (evenOf rd) v0).setCreg (oddOf rd) v1).creg (evenOf rd) = v0 ∧
      ((s.setCreg (evenOf rd) v0).setCreg (oddOf rd) v1).creg (oddOf rd) = v1 ∧
      ∀ n, n ≠ evenOf rd → n ≠ oddOf rd → ((s.setCreg (evenOf rd) v0).setCreg (oddOf rd) v1).creg n = s.creg n := by
  refine ⟨?_, ?_, fun n h0 h1 => ?_⟩ <;> rw [State.creg_setCreg]
  · rw [if_neg (evenOf_ne_oddOf rd), State.creg_setCreg, if_pos rfl]
  · rw [if_pos rfl]
  · rw [if_neg h1, State.creg_setCreg, if_neg h0]

section CpLoads
variable {s : State} {asi : Byte} {a : Word} {k : Nat} (hl : s.locate .read asi a = some k)
include hl

theorem State.loadCp_located (ha : a.toNat % 4 = 0) (put : State → Word → State) :
    s.loadCp asi a put = (put s (Memory.word s.mem k)).cpLoaded.advance := by
  simp only [State.loadCp, aligned_true ha, if_true, State.readWord_located hl]

theorem State.loadDoubleCp_located {k' : Nat} (ha : a.toNat % 8 = 0) (hl' : s.locate .read asi (a + 4) = some k')
    (rd : Reg) :
    s.loadDoubleCp asi a rd =
      ((s.setCreg (evenOf rd) (Memory.word s.mem k)).setCreg (oddOf rd) (Memory.word s.mem k')).cpLoaded.advance := by
  simp only [State.loadDoubleCp, aligned_true ha, if_true, State.readWord_located hl, State.readWord_located hl']

end CpLoads

section CpLoads
variable (s : State) (rd : Reg) (k : Nat)

theorem loadCreg_located : AccessMeets (fun s asi a => s.loadCp asi a fun t w => t.setCreg rd w) s fun asi a o =>
    s.locate .read asi a = some k → a.toNat % 4 = 0 →
      ∃ t, o = .next t ∧ Advanced s t ∧ RegsKept s t ∧ MemKept s t ∧ OnlyCp s t ∧ t.creg rd = Memory.word s.mem k ∧
        (∀ n, n ≠ rd → t.creg n = s.creg n) ∧
        t.cp = { s.cp with c := t.cp.c, hidden := Config.cpLoaded { s.cp with c := t.cp.c } } := by
  intro asi a hl ha
  have hcreg (n : Reg) := s.creg_setCreg rd n (Memory.word s.mem k)
  simp only [State.loadCp_located hl ha]
  have hcp : s.onlyCpChanged (s.setCreg rd (Memory.word s.mem k)).cpLoaded := rfl
  obtain ⟨hadv, hregs, hmem, honly⟩ := hcp.advance
  exact ⟨_, rfl, hadv, hregs, hmem, honly, (hcreg rd).trans (if_pos rfl), fun n hn => (hcreg n).trans (if_neg hn), rfl⟩

theorem loadCsr_located : AccessMeets (fun s asi a => s.loadCp asi a State.setCsr) s fun asi a o =>
    s.locate .read asi a = some k → a.toNat % 4 = 0 →
      ∃ t, o = .next t ∧ Advanced s t ∧ RegsKept s t ∧ MemKept s t ∧ OnlyCp s t ∧
        t.cp = { s.cp with csr := Memory.word s.mem k, hidden := Config.cpLoaded { s.cp with csr := Memory.word s.mem k } } := by
  intro asi a hl ha
  simp only [State.loadCp_located hl ha]
  have hcp : s.onlyCpChanged (s.setCsr (Memory.word s.mem k)).cpLoaded := rfl
  obtain ⟨hadv, hregs, hmem, honly⟩ := hcp.advance
  exact ⟨_, rfl, hadv, hregs, hmem, honly, rfl⟩

theorem loadDoubleCp_located (k' : Nat) : AccessMeets (fun s asi a => s.loadDoubleCp asi a rd) s fun asi a o =>
    s.locate .read asi a = some k → a.toNat % 8 = 0 → s.locate .read asi (a + 4) = some k' →
      ∃ t, o = .next t ∧ Advanced s t ∧ RegsKept s t ∧ MemKept s t ∧ OnlyCp s t ∧
        t.creg (evenOf rd) = Memory.word s.mem k ∧ t.creg (oddOf rd) = Memory.word s.mem k' ∧
        (∀ n, n ≠ evenOf rd → n ≠ oddOf rd → t.creg n = s.creg n) ∧
        t.cp = { s.cp with c := t.cp.c, hidden := Config.cpLoaded { s.cp with c := t.cp.c } } := by
  intro asi a hl ha hl'
  obtain ⟨heven, hodd, hkept⟩ := s.creg_setCreg_pair rd (Memory.word s.mem k) (Memory.word s.mem k')
  simp only [State.loadDoubleCp_located hl ha hl' rd]
  have hcp : s.onlyCpChanged
      ((s.setCreg (evenOf rd) (Memory.word s.mem k)).setCreg (oddOf rd) (Memory.word s.mem k')).cpLoaded := rfl
  obtain ⟨hadv, hregs, hmem, honly⟩ := hcp.advance
  exact ⟨_, rfl, hadv, hregs, hmem, honly, heven, hodd, hkept, rfl⟩

/-- A CPop with the coprocessor ready is the coprocessor's own operation. -/
theorem State.cpop_ready {s : State} (h : s.cpReady) (word : Word) :
    ∃ t, Host.Outcome.next (s.cpop word) = (.next t : Out) ∧ Advanced s t ∧ RegsKept s t ∧ MemKept s t ∧ OnlyCp s t ∧
      t.cp = Config.cpExecute s.cp word s.pc := by
  have hcp : s.onlyCpChanged (s.setCp (Config.cpExecute s.cp word s.pc)) := rfl
  obtain ⟨hadv, hregs, hmem, honly⟩ := hcp.advance
  exact ⟨_, by rw [State.cpop, State.cpGuard_ready h], hadv, hregs, hmem, honly, rfl⟩

end CpLoads

/-- Settles O57: with the coprocessor ready each load writes its registers, and a CPop is what the coprocessor makes of it. -/
theorem coprocessorLoadsAndOperates : Obligations.CoprocessorLoadsAndOperates := by
  unfold Obligations.CoprocessorLoadsAndOperates
  refine ⟨fun s rd rs1 src k hready => ?_, fun s rd rs1 rs2 opc hready i hi => ?_⟩
  · have hq : s.quiet := hready.1
    have hg := State.cpGuard_ready hready
    exact fun hl => ⟨(loadCreg_located s rd k).guarded hq hg rs1 src hl,
      fun k' => (loadDoubleCp_located s rd k k').guarded hq hg rs1 src hl,
      (loadCsr_located s k).guarded hq hg rs1 src hl⟩
  · simp only [List.mem_cons, List.not_mem_nil, or_false] at hi
    rcases hi with rfl | rfl <;> exact State.cpop_ready hready _

/-- A store that the coprocessor takes note of. -/
theorem storesBytes_cpStored {s u : State} {k : Nat} {bytes : List Byte} (hu : s.onlyStored u)
    (hw : Memory.Written s.mem u.mem k bytes)
    (hst : u.unflushed = s.noted (if bytes.length = 8 then [k + 4, k] else [k - k % 4])) :
    StoresBytes s.cpStored (.next u.cpStored.advance) k bytes := by
  have hcp : s.cpStored.onlyStored u.cpStored := by
    unfold State.onlyStored at hu ⊢
    rw [hu]; rfl
  exact storesBytes_of_written hcp hw hst

/-- The store of the coprocessor queue's front entry, where storage answers both accesses. -/
theorem State.storeCpQueue_located {s : State} {asi : Byte} {a : Word} {k : Nat} (hl : s.locate .write asi a = some k)
    (ha : a.toNat % 8 = 0) (hn : s.locate .write asi (a + 4) ≠ none) :
    s.storeCpQueue asi a =
      ((s.storedPair k s.cp.cqAddr s.cp.cqInstr).setCp
        (Config.cpStoredQueue (s.storedPair k s.cp.cqAddr s.cp.cqInstr).cp)).advance := by
  simp only [State.storeCpQueue, aligned_true ha, if_true, State.writeWord_located hl, State.stored_cp,
    State.writeWord_located (State.locate_stored hl ha hn _), State.storedPair]

section CpStores
variable {s : State} (hwf : Memory.wf s.mem = true) (k : Nat)
include hwf

/-- A store of a word of the coprocessor, whatever the word. -/
theorem storeCp_located (v : State → Word) : AccessMeets (fun s asi a => s.storeCp asi a (v s)) s fun asi a o =>
    s.locate .write asi a = some k → a.toNat % 4 = 0 → StoresBytes s.cpStored o k (bytesOfWord (v s)) := by
  intro asi a hl ha
  simp only [State.storeCp, State.writeWord_located hl, Option.map_some, State.store, aligned_true ha, if_true]
  refine storesBytes_cpStored (s.stored_only _ _ _) (Memory.written_word hwf k _) ?_
  rw [if_neg (by simp [bytesOfWord]), State.stored_unflushed, State.locate_mod_four hl, Nat.sub_zero]

/-- A store of two words of the coprocessor, whatever they are. -/
theorem storeDoubleCp_located (v0 v1 : State → Word) :
    AccessMeets (fun s asi a => s.storeDoubleCp asi a (v0 s) (v1 s)) s fun asi a o =>
      s.locate .write asi a = some k → a.toNat % 8 = 0 → s.locate .write asi (a + 4) ≠ none →
        StoresBytes s.cpStored o k (bytesOfWord (v0 s) ++ bytesOfWord (v1 s)) := by
  intro asi a hl ha hn
  simp only [State.storeDoubleCp, aligned_true ha, if_true, State.writeWord_located hl,
    State.writeWord_located (State.locate_stored hl ha hn _)]
  exact storesBytes_cpStored (s.storedPair_only k _ _) (s.storedPair_written k _ _ hwf) (s.storedPair_unflushed k _ _ hwf)

theorem storeCpQueue_located : AccessMeets State.storeCpQueue s fun asi a o =>
    s.locate .write asi a = some k → a.toNat % 8 = 0 → s.locate .write asi (a + 4) ≠ none →
      ∃ t, o = .next t ∧ Advanced s t ∧ RegsKept s t ∧ t.cp = Config.cpStoredQueue s.cp ∧
        Memory.word t.mem k = s.cp.cqAddr ∧ Memory.word t.mem (k + 4) = s.cp.cqInstr ∧ MemKeptBut s t k 8 ∧
        t.stale = s.noted [k + 4, k] ∧
        t = { s with pc := t.pc, npc := t.npc, prev := s.current, stale := t.stale, mem := t.mem, cp := t.cp } := by
  intro asi a hl ha hn
  obtain ⟨hfirst, hsecond, hkept⟩ := s.storedPair_words k s.cp.cqAddr s.cp.cqInstr hwf
  have hnoted := s.storedPair_unflushed k s.cp.cqAddr s.cp.cqInstr hwf
  have honly := s.storedPair_only k s.cp.cqAddr s.cp.cqInstr
  rw [State.storeCpQueue_located hl ha hn]
  generalize s.storedPair k s.cp.cqAddr s.cp.cqInstr = u at hfirst hsecond hkept hnoted honly ⊢
  refine ⟨_, rfl, ⟨?_, ?_⟩, ?_, ?_, hfirst, hsecond, hkept, hnoted, ?_⟩
  · rw [honly]; rfl
  · rw [honly]; rfl
  · intro w n
    apply State.regIn_congr <;> rw [honly] <;> rfl
  · rw [honly]; rfl
  · rw [honly]; rfl

end CpStores

/-- Settles O58: the coprocessor's stores are those of one word or of two, of which the coprocessor takes note. -/
theorem coprocessorStores : Obligations.CoprocessorStores := by
  unfold Obligations.CoprocessorStores
  intro s rd rs1 src k hwf hready
  have hq : s.quiet := hready.1
  have hg := State.cpGuard_ready hready
  exact fun hl => ⟨(storeCp_located hwf k fun s => s.creg rd).guarded hq hg rs1 src hl,
    (storeCp_located hwf k fun s => s.cp.csr).guarded hq hg rs1 src hl,
    (storeDoubleCp_located hwf k (fun s => s.creg (evenOf rd)) fun s => s.creg (oddOf rd)).guarded hq hg rs1 src hl,
    fun ha hn hs => (storeCpQueue_located hwf k).privileged hq hs hg rs1 src hl ha hn⟩

/-! ### Accesses that the memory system refuses -/

/-- What refuses an access depends on the parameters alone. -/
theorem State.refusedAt_congr {s t : State} (h : t.cfg = s.cfg) {acc : Access} {asi : Byte} {a : Word}
    (hr : s.refusedAt acc asi a) : t.refusedAt acc asi a := by
  unfold State.refusedAt
  rw [State.onDevice_congr h, State.locate_congr h]
  exact hr

section Refused
variable {s : State} {asi : Byte} {a : Word}

section Read
variable (h : s.refusedAt .read asi a)
include h

theorem State.readByte_refused : s.readByte asi a = (s, none) := by
  simp [State.readByte, State.memoryRead_refused h.1 h.2]

theorem State.readHalf_refused : s.readHalf asi a = (s, none) := by
  simp [State.readHalf, State.memoryRead_refused h.1 h.2]

theorem State.readWord_refused : s.readWord asi a = (s, none) := State.memoryRead_refused h.1 h.2 _

end Read

section Write
variable (h : s.refusedAt .write asi a)
include h

theorem State.writeByte_refused (v : Byte) : s.writeByte asi a v = none := State.memoryWrite_refused h.1 h.2

theorem State.writeHalf_refused (v : BitVec 16) : s.writeHalf asi a v = none := State.memoryWrite_refused h.1 h.2

theorem State.writeWord_refused (v : Word) : s.writeWord asi a v = none := State.memoryWrite_refused h.1 h.2

end Write

end Refused

/-- A data_access_exception after an effect that left the status and the delayed writes as they were. -/
theorem traps_dataAccess {s m : State} (hq : s.quiet) (het : s.psr.et = true) (hf : m.flight = s.flight)
    (hp : m.psr = s.psr) : Traps m (.next (m.takeTrap .dataAccessException)) 9 :=
  traps_of_quiet (hf.trans hq) (by rw [hp, het]) .dataAccessException

/-- An access traps without another effect where the memory system refuses it. -/
def RefusalTraps (access : State → Byte → Word → State) (acc : Access) (n : Nat) (s : State) : Prop :=
  AccessMeets access s fun asi a o => a.toNat % n = 0 → s.refusedAt acc asi a → Traps s o 9

theorem refusalTraps_of_takeTrap {access : State → Byte → Word → State} {acc : Access} {n : Nat} {s : State}
    (hq : s.quiet) (het : s.psr.et = true)
    (h : ∀ asi a, a.toNat % n = 0 → s.refusedAt acc asi a → access s asi a = s.takeTrap .dataAccessException) :
    RefusalTraps access acc n s := by
  intro asi a ha hr
  rw [h asi a ha hr]
  exact traps_dataAccess hq het rfl rfl

/-- A word stored, and no other. -/
theorem State.stored_wordStored {s : State} (hwf : Memory.wf s.mem = true) (k : Nat) (v : Word) :
    WordStored s (s.stored k 0b1111#4 v) k v :=
  ⟨Memory.word_setMasked _ _ _ hwf, (Memory.written_word hwf k v).kept, s.stored_stale k _ v⟩

/-- The second word is still refused once the first has been stored. -/
theorem State.writeWord_stored_refused {s : State} {asi : Byte} {a : Word} (hr : s.refusedAt .write asi a) (k : Nat)
    (v w : Word) : (s.stored k 0b1111#4 v).writeWord asi a w = none :=
  State.writeWord_refused (State.refusedAt_congr (by rw [s.stored_only k 0b1111#4 v]) hr) w

section Refusals
variable {s : State} (hq : s.quiet) (het : s.psr.et = true) (rd : Reg)
include hq het

/-! #### The first access -/

theorem loadSignedByte_refused : RefusalTraps (fun s asi a => s.loadSignedByte asi a rd) .read 1 s :=
  refusalTraps_of_takeTrap hq het fun asi a _ hr => by
    simp [State.loadSignedByte, State.loadReg, State.readByte_refused hr]

theorem loadUnsignedByte_refused : RefusalTraps (fun s asi a => s.loadUnsignedByte asi a rd) .read 1 s :=
  refusalTraps_of_takeTrap hq het fun asi a _ hr => by
    simp [State.loadUnsignedByte, State.loadReg, State.readByte_refused hr]

theorem loadSignedHalf_refused : RefusalTraps (fun s asi a => s.loadSignedHalf asi a rd) .read 2 s :=
  refusalTraps_of_takeTrap hq het fun asi a ha hr => by
    simp [State.loadSignedHalf, State.loadReg, aligned_true ha, State.readHalf_refused hr]

theorem loadUnsignedHalf_refused : RefusalTraps (fun s asi a => s.loadUnsignedHalf asi a rd) .read 2 s :=
  refusalTraps_of_takeTrap hq het fun asi a ha hr => by
    simp [State.loadUnsignedHalf, State.loadReg, aligned_true ha, State.readHalf_refused hr]

theorem loadWord_refused : RefusalTraps (fun s asi a => s.loadWord asi a rd) .read 4 s :=
  refusalTraps_of_takeTrap hq het fun asi a ha hr => by
    simp [State.loadWord, State.loadReg, aligned_true ha, State.readWord_refused hr]

theorem loadDouble_refused : RefusalTraps (fun s asi a => s.loadDouble asi a rd) .read 8 s :=
  refusalTraps_of_takeTrap hq het fun asi a ha hr => by
    simp [State.loadDouble, aligned_true ha, State.readWord_refused hr]

theorem loadStoreByte_refused : RefusalTraps (fun s asi a => s.loadStoreByte asi a rd) .read 1 s :=
  refusalTraps_of_takeTrap hq het fun asi a _ hr => by simp [State.loadStoreByte, State.readByte_refused hr]

theorem swapWord_refused : RefusalTraps (fun s asi a => s.swapWord asi a rd) .read 4 s :=
  refusalTraps_of_takeTrap hq het fun asi a ha hr => by
    simp [State.swapWord, aligned_true ha, State.readWord_refused hr]

theorem storeByte_refused : RefusalTraps (fun s asi a => s.storeByte asi a rd) .write 1 s :=
  refusalTraps_of_takeTrap hq het fun asi a _ hr => by simp [State.storeByte, State.store, State.writeByte_refused hr]

theorem storeHalf_refused : RefusalTraps (fun s asi a => s.storeHalf asi a rd) .write 2 s :=
  refusalTraps_of_takeTrap hq het fun asi a ha hr => by
    simp [State.storeHalf, State.store, aligned_true ha, State.writeHalf_refused hr]

omit rd in
/-- A store of a word, whatever the word. -/
theorem storeOfWord_refused (v : State → Word) :
    RefusalTraps (fun s asi a => s.store (aligned a 4) (s.writeWord asi a (v s))) .write 4 s :=
  refusalTraps_of_takeTrap hq het fun asi a ha hr => by simp [State.store, aligned_true ha, State.writeWord_refused hr]

theorem storeWord_refused : RefusalTraps (fun s asi a => s.storeWord asi a rd) .write 4 s :=
  storeOfWord_refused hq het fun s => s.reg .rdRead rd

omit rd in
/-- A store of two words, whatever they are. -/
theorem storeOfPair_refused (v0 v1 : State → Word) :
    RefusalTraps (fun s asi a => s.storePair asi a (v0 s) (v1 s)) .write 8 s :=
  refusalTraps_of_takeTrap hq het fun asi a ha hr => by simp [State.storePair, aligned_true ha, State.writeWord_refused hr]

theorem storeDouble_refused : RefusalTraps (fun s asi a => s.storeDouble asi a rd) .write 8 s :=
  storeOfPair_refused hq het (fun s => s.reg .rdRead (evenOf rd)) fun s => s.reg .rdReadOdd (oddOf rd)

/-! #### The second access -/

/-- A load that trapped at its second access, after a register was loaded. -/
theorem traps_setReg (v : Word) : ∃ m, Holds m s.psr.cwp rd v ∧ RegsKeptBut s m s.psr.cwp rd ∧
    m = { s with globals := m.globals, windows := m.windows } ∧
      Traps m (.next ((s.setReg .rdWrite rd v).takeTrap .dataAccessException)) 9 :=
  ⟨_, State.setReg_holds hq .rdWrite rd v, State.setReg_kept hq .rdWrite rd v, s.setReg_only .rdWrite rd v,
    traps_dataAccess hq het (by simp) (by simp)⟩

theorem loadDouble_secondRefused (k : Nat) : AccessMeets (fun s asi a => s.loadDouble asi a rd) s fun asi a o =>
    a.toNat % 8 = 0 → s.locate .read asi a = some k → s.refusedAt .read asi (a + 4) →
      ∃ m, Holds m s.psr.cwp (evenOf rd) (Memory.word s.mem k) ∧ RegsKeptBut s m s.psr.cwp (evenOf rd) ∧
        m = { s with globals := m.globals, windows := m.windows } ∧ Traps m o 9 := by
  intro asi a ha hl hr
  have hr2 (v : Word) := State.refusedAt_congr (t := s.setReg .rdWrite (evenOf rd) v) (by simp) hr
  simp only [State.loadDouble, aligned_true ha, if_true, State.readWord_located hl, State.readWord_refused (hr2 _)]
  exact traps_setReg hq het (evenOf rd) _

theorem loadStoreByte_secondRefused (k : Nat) : AccessMeets (fun s asi a => s.loadStoreByte asi a rd) s fun asi a o =>
    a.toNat % 1 = 0 → s.locate .read asi a = some k → s.refusedAt .write asi a →
      ∃ m, Holds m s.psr.cwp rd ((Memory.get s.mem (k + a.toNat % 4)).setWidth 32) ∧ RegsKeptBut s m s.psr.cwp rd ∧
        m = { s with globals := m.globals, windows := m.windows } ∧ Traps m o 9 := by
  intro asi a _ hl hr
  have hr2 (v : Word) := State.refusedAt_congr (t := s.setReg .rdWrite rd v) (by simp) hr
  simp only [State.loadStoreByte, State.readByte_located hl, State.writeByte_refused (hr2 _)]
  exact traps_setReg hq het rd _

theorem swapWord_secondRefused (k : Nat) : AccessMeets (fun s asi a => s.swapWord asi a rd) s fun asi a o =>
    a.toNat % 4 = 0 → s.locate .read asi a = some k → s.refusedAt .write asi a →
      ∃ m, Holds m s.psr.cwp rd (Memory.word s.mem k) ∧ RegsKeptBut s m s.psr.cwp rd ∧
        m = { s with globals := m.globals, windows := m.windows } ∧ Traps m o 9 := by
  intro asi a ha hl hr
  have hr2 (v : Word) := State.refusedAt_congr (t := s.setReg .rdWrite rd v) (by simp) hr
  simp only [State.swapWord, aligned_true ha, if_true, State.readWord_located hl, State.writeWord_refused (hr2 _)]
  exact traps_setReg hq het rd _

omit rd

/-- A store that trapped at its second access, after a word was stored. -/
theorem traps_stored (hwf : Memory.wf s.mem = true) (k : Nat) (v : Word) : ∃ m, WordStored s m k v ∧
    m = { s with mem := m.mem, stale := m.stale } ∧
      Traps m (.next ((s.stored k 0b1111#4 v).takeTrap .dataAccessException)) 9 := by
  have honly := s.stored_only k 0b1111#4 v
  exact ⟨_, State.stored_wordStored hwf k v, honly, traps_dataAccess hq het (by rw [honly]) (by rw [honly])⟩

theorem storeOfPair_secondRefused (hwf : Memory.wf s.mem = true) (k : Nat) (v0 v1 : State → Word) :
    AccessMeets (fun s asi a => s.storePair asi a (v0 s) (v1 s)) s fun asi a o =>
      a.toNat % 8 = 0 → s.locate .write asi a = some k → s.refusedAt .write asi (a + 4) →
        ∃ m, WordStored s m k (v0 s) ∧ m = { s with mem := m.mem, stale := m.stale } ∧ Traps m o 9 := by
  intro asi a ha hl hr
  simp only [State.storePair, aligned_true ha, if_true, State.writeWord_located hl, State.writeWord_stored_refused hr]
  exact traps_stored hq het hwf k _

theorem storeDouble_secondRefused (hwf : Memory.wf s.mem = true) (rd : Reg) (k : Nat) :
    AccessMeets (fun s asi a => s.storeDouble asi a rd) s fun asi a o =>
      a.toNat % 8 = 0 → s.locate .write asi a = some k → s.refusedAt .write asi (a + 4) →
        ∃ m, WordStored s m k (s.r (evenOf rd)) ∧ m = { s with mem := m.mem, stale := m.stale } ∧ Traps m o 9 := by
  rw [← State.reg_quiet hq .rdRead]
  exact storeOfPair_secondRefused hq het hwf k (fun s => s.reg .rdRead (evenOf rd)) fun s => s.reg .rdReadOdd (oddOf rd)

end Refusals

/-! ### Refused floating-point accesses -/

/-- Nothing differs but one f register. -/
structure OnlyFreg (s t : State) (r : Reg) : Prop where
  only : t = { s with fpu := { s.fpu with f := t.fpu.f } }
  kept : ∀ n, n ≠ r → t.freg n = s.freg n

theorem State.setFreg_onlyFreg (s : State) (r : Reg) (v : Word) : OnlyFreg s (s.setFreg r v) r :=
  ⟨rfl, fun n hn => by rw [State.freg_setFreg, if_neg hn]⟩

/-- After a refused load an f register is as it was, or the implementation's constant (U6). -/
theorem State.keepOrConstant_onlyFreg (s : State) (n : Nat) (r : Reg) :
    OnlyFreg s (s.keepOrConstant n r) r ∧
      ((s.keepOrConstant n r).freg r = s.freg r ∨ (s.keepOrConstant n r).freg r = Config.loadTrapConstant) := by
  unfold State.keepOrConstant
  split
  · exact ⟨s.setFreg_onlyFreg r _, .inr (by rw [State.freg_setFreg, if_pos rfl])⟩
  · exact ⟨⟨rfl, fun _ _ => rfl⟩, .inl rfl⟩

/-- Two f registers of a pair, one after the other: the second leaves the first as it is, and no other differs. -/
theorem OnlyFreg.pair {s t u : State} {rd : Reg} (h0 : OnlyFreg s t (pairHigh rd)) (h1 : OnlyFreg t u (pairLow rd)) :
    u = { s with fpu := { s.fpu with f := u.fpu.f } } ∧ u.freg (pairHigh rd) = t.freg (pairHigh rd) ∧
      t.freg (pairLow rd) = s.freg (pairLow rd) ∧ FregsKeptBut s u [pairHigh rd, pairLow rd] := by
  refine ⟨by rw [h1.only, h0.only], h1.kept _ (pairHigh_ne_pairLow rd), h0.kept _ (pairHigh_ne_pairLow rd).symm, ?_⟩
  intro n hn
  obtain ⟨hhigh, hlow⟩ : n ≠ pairHigh rd ∧ n ≠ pairLow rd := by simpa using hn
  rw [h1.kept n hlow, h0.kept n hhigh]

/-- An f register is as it was, or the implementation's constant. -/
def FregLeft (s m : State) (n : Reg) : Prop := m.freg n = s.freg n ∨ m.freg n = Config.loadTrapConstant

section FpRefusals
variable {s : State} (hq : s.quiet) (het : s.psr.et = true) (rd : Reg)
include hq het

theorem loadSingleFp_refused : AccessMeets (fun s asi a => s.loadSingleFp asi a rd) s fun asi a o =>
    s.refusedAt .read asi a → a.toNat % 4 = 0 →
      ∃ m, FregLeft s m rd ∧ FregsKeptBut s m [rd] ∧ m = { s with fpu := { s.fpu with f := m.fpu.f } } ∧ Traps m o 9 := by
  intro asi a hr ha
  obtain ⟨honly, hleft⟩ := s.keepOrConstant_onlyFreg 0 rd
  simp only [State.loadSingleFp, aligned_true ha, if_true, State.readWord_refused hr]
  exact ⟨_, hleft, fun n hn => honly.kept n (by simpa using hn), honly.only,
    traps_dataAccess hq het (by rw [honly.only]) (by rw [honly.only])⟩

/-- A load of a pair that trapped: what the even register was left with, then the odd one kept or the constant. -/
theorem traps_pairLeft {t : State} (h : OnlyFreg s t (pairHigh rd)) : ∃ m, m.freg (pairHigh rd) = t.freg (pairHigh rd) ∧
    FregLeft s m (pairLow rd) ∧ FregsKeptBut s m [pairHigh rd, pairLow rd] ∧
      m = { s with fpu := { s.fpu with f := m.fpu.f } } ∧
      Traps m (.next ((t.keepOrConstant 1 (pairLow rd)).takeTrap .dataAccessException)) 9 := by
  obtain ⟨honly, hleft⟩ := t.keepOrConstant_onlyFreg 1 (pairLow rd)
  obtain ⟨hm, hhigh, hlow, hkept⟩ := h.pair honly
  rw [hlow] at hleft
  exact ⟨_, hhigh, hleft, hkept, hm, traps_dataAccess hq het (by rw [hm]) (by rw [hm])⟩

theorem loadDoubleFp_refused : AccessMeets (fun s asi a => s.loadDoubleFp asi a rd) s fun asi a o =>
    s.refusedAt .read asi a → a.toNat % 8 = 0 →
      ∃ m, FregLeft s m (pairHigh rd) ∧ FregLeft s m (pairLow rd) ∧ FregsKeptBut s m [pairHigh rd, pairLow rd] ∧
        m = { s with fpu := { s.fpu with f := m.fpu.f } } ∧ Traps m o 9 := by
  intro asi a hr ha
  obtain ⟨honly, hleft⟩ := s.keepOrConstant_onlyFreg 0 (pairHigh rd)
  obtain ⟨m, hhigh, hlow, hrest⟩ := traps_pairLeft hq het rd honly
  simp only [State.loadDoubleFp, aligned_true ha, if_true, State.readWord_refused hr]
  exact ⟨m, by rwa [FregLeft, hhigh], hlow, hrest⟩

theorem loadDoubleFp_secondRefused (k : Nat) : AccessMeets (fun s asi a => s.loadDoubleFp asi a rd) s fun asi a o =>
    s.locate .read asi a = some k → s.refusedAt .read asi (a + 4) → a.toNat % 8 = 0 →
      ∃ m, (FregLeft s m (pairHigh rd) ∨ m.freg (pairHigh rd) = Memory.word s.mem k) ∧ FregLeft s m (pairLow rd) ∧
        FregsKeptBut s m [pairHigh rd, pairLow rd] ∧ m = { s with fpu := { s.fpu with f := m.fpu.f } } ∧ Traps m o 9 := by
  intro asi a hl hr ha
  simp only [State.loadDoubleFp, aligned_true ha, if_true, State.readWord_located hl, State.readWord_refused hr]
  split
  · obtain ⟨m, hhigh, hlow, hrest⟩ := traps_pairLeft hq het rd (s.setFreg_onlyFreg (pairHigh rd) (Memory.word s.mem k))
    exact ⟨m, .inr (by rw [hhigh, State.freg_setFreg, if_pos rfl]), hlow, hrest⟩
  · obtain ⟨honly, hleft⟩ := s.keepOrConstant_onlyFreg 0 (pairHigh rd)
    obtain ⟨m, hhigh, hlow, hrest⟩ := traps_pairLeft hq het rd honly
    exact ⟨m, .inl (by rwa [FregLeft, hhigh]), hlow, hrest⟩

omit rd

theorem loadFsr_refused : RefusalTraps State.loadFsr .read 4 s :=
  refusalTraps_of_takeTrap hq het fun asi a ha hr => by simp [State.loadFsr, aligned_true ha, State.readWord_refused hr]

theorem storeFsr_refused (hn : s.fpu.queue = []) (hm : s.fpu.mode ≠ .exceptionPending) :
    RefusalTraps State.storeFsr .write 4 s :=
  refusalTraps_of_takeTrap hq het fun asi a ha hr => by
    simp [State.storeFsr, aligned_true ha, State.fpHold_nil hn hm, State.store, State.writeWord_refused hr]

theorem storeQueue_refused : RefusalTraps State.storeQueue .write 8 s :=
  refusalTraps_of_takeTrap hq het fun asi a ha hr => by
    simp [State.storeQueue, aligned_true ha, State.writeWord_refused hr]

theorem storeQueue_secondRefused (hwf : Memory.wf s.mem = true) (k : Nat) {e : FqEntry} {rest : List FqEntry}
    (hm : s.fpu.mode = .exception) (hqueue : s.fpu.queue = e :: rest) : AccessMeets State.storeQueue s fun asi a o =>
      a.toNat % 8 = 0 → s.locate .write asi a = some k → s.refusedAt .write asi (a + 4) →
        ∃ m, WordStored s m k e.addr ∧
          m = { s with mem := m.mem, stale := m.stale,
                       fpu := { s.fpu with queue := rest, mode := if rest = [] then .execute else .exception,
                                           fsr := { s.fpu.fsr with qne := decide (rest ≠ []) } } } ∧
          Traps m o 9 := by
  intro asi a ha hl hr
  have hm1 : (s.stored k 0b1111#4 e.addr).fpu.mode = .exception := by rw [State.stored_fpu, hm]
  have hstored := State.stored_wordStored hwf k e.addr
  have honly := s.stored_only k 0b1111#4 e.addr
  have hr2 : ((s.stored k 0b1111#4 e.addr).dequeue rest).refusedAt .write asi (a + 4) :=
    State.refusedAt_congr (by rw [State.dequeue_exception hm1, honly]) hr
  simp only [State.storeQueue, aligned_true ha, if_true, State.queueWords_exception hm hqueue, State.writeWord_located hl,
    State.stored_fpu, hqueue, State.writeWord_refused hr2]
  have hd := State.dequeue_exception hm1 rest
  rw [State.stored_fpu] at hd
  rw [hd]
  refine ⟨_, ?_, ?_, traps_dataAccess hq het ?_ ?_⟩
  · exact hstored
  · rw [honly]
  · rw [honly]
  · rw [honly]

end FpRefusals

/-! ### Refused coprocessor accesses -/

section CpRefusals
variable {s : State} (hq : s.quiet) (het : s.psr.et = true)
include hq het

/-- A refused load leaves the coprocessor in a state of its own (R225). -/
theorem traps_cpLoadTrap : Traps { s with cp := Config.cpLoadTrapped s.cp } (.next s.cpLoadTrap) 9 :=
  traps_dataAccess hq het rfl rfl

theorem loadCp_refused (put : State → Word → State) : AccessMeets (fun s asi a => s.loadCp asi a put) s fun asi a o =>
    s.refusedAt .read asi a → a.toNat % 4 = 0 → Traps { s with cp := Config.cpLoadTrapped s.cp } o 9 := by
  intro asi a hr ha
  simp only [State.loadCp, aligned_true ha, if_true, State.readWord_refused hr]
  exact traps_cpLoadTrap hq het

theorem loadDoubleCp_refused (rd : Reg) : AccessMeets (fun s asi a => s.loadDoubleCp asi a rd) s fun asi a o =>
    s.refusedAt .read asi a → a.toNat % 8 = 0 → Traps { s with cp := Config.cpLoadTrapped s.cp } o 9 := by
  intro asi a hr ha
  simp only [State.loadDoubleCp, aligned_true ha, if_true, State.readWord_refused hr]
  exact traps_cpLoadTrap hq het

theorem loadDoubleCp_secondRefused (rd : Reg) (k : Nat) :
    AccessMeets (fun s asi a => s.loadDoubleCp asi a rd) s fun asi a o =>
      s.locate .read asi a = some k → s.refusedAt .read asi (a + 4) → a.toNat % 8 = 0 →
        ∃ m, m.creg (evenOf rd) = Memory.word s.mem k ∧ m.creg (oddOf rd) = s.creg (oddOf rd) ∧
          (∀ n, n ≠ evenOf rd → n ≠ oddOf rd →
            m.creg n = State.creg { s with cp := Config.cpLoadTrapped s.cp } n) ∧
          m = { s with cp := { Config.cpLoadTrapped s.cp with c := m.cp.c } } ∧ Traps m o 9 := by
  intro asi a hl hr ha
  simp only [State.loadDoubleCp, aligned_true ha, if_true, State.readWord_located hl, State.readWord_refused hr]
  obtain ⟨heven, hodd, hkept⟩ :=
    (s.setCp (Config.cpLoadTrapped s.cp)).creg_setCreg_pair rd (Memory.word s.mem k) (s.creg (oddOf rd))
  exact ⟨_, heven, hodd, hkept, rfl, traps_dataAccess hq het rfl rfl⟩

/-- A store of a word of the coprocessor, whatever the word. -/
theorem storeCp_refused (v : State → Word) : RefusalTraps (fun s asi a => s.storeCp asi a (v s)) .write 4 s :=
  refusalTraps_of_takeTrap hq het fun asi a ha hr => by
    simp [State.storeCp, State.store, aligned_true ha, State.writeWord_refused hr]

/-- A store of two words of the coprocessor, whatever they are. -/
theorem storeDoubleCp_refused (v0 v1 : State → Word) :
    RefusalTraps (fun s asi a => s.storeDoubleCp asi a (v0 s) (v1 s)) .write 8 s :=
  refusalTraps_of_takeTrap hq het fun asi a ha hr => by
    simp [State.storeDoubleCp, aligned_true ha, State.writeWord_refused hr]

theorem storeCpQueue_refused : RefusalTraps State.storeCpQueue .write 8 s :=
  refusalTraps_of_takeTrap hq het fun asi a ha hr => by
    simp [State.storeCpQueue, aligned_true ha, State.writeWord_refused hr]

theorem storeDoubleCp_secondRefused (hwf : Memory.wf s.mem = true) (k : Nat) (v0 v1 : State → Word) :
    AccessMeets (fun s asi a => s.storeDoubleCp asi a (v0 s) (v1 s)) s fun asi a o =>
      s.locate .write asi a = some k → s.refusedAt .write asi (a + 4) → a.toNat % 8 = 0 →
        ∃ m, WordStored s m k (v0 s) ∧ m = { s with mem := m.mem, stale := m.stale } ∧ Traps m o 9 := by
  intro asi a hl hr ha
  simp only [State.storeDoubleCp, aligned_true ha, if_true, State.writeWord_located hl, State.writeWord_stored_refused hr]
  exact traps_stored hq het hwf k _

theorem storeCpQueue_secondRefused (hwf : Memory.wf s.mem = true) (k : Nat) :
    AccessMeets State.storeCpQueue s fun asi a o =>
      s.locate .write asi a = some k → s.refusedAt .write asi (a + 4) → a.toNat % 8 = 0 →
        ∃ m, WordStored s m k s.cp.cqAddr ∧ m = { s with mem := m.mem, stale := m.stale } ∧ Traps m o 9 := by
  intro asi a hl hr ha
  simp only [State.storeCpQueue, aligned_true ha, if_true, State.writeWord_located hl, State.writeWord_stored_refused hr]
  exact traps_stored hq het hwf k _

end CpRefusals

/-! ### Accesses that a device answers -/

/-- A load of what a device answers: r[rd] holds a value made of the word, or the device's exception is the trap. -/
def LoadsAnswer (s : State) (e : EnvAnswer) (rd : Reg) (v : Word → Word) (o : Out) : Prop :=
  match e.data with
  | some w => WritesReg (s.answered e) o rd (v w)
  | none => Traps (s.answered e) o 9

/-- A store handed to a device: nothing changes but the environment, or the device's exception is the trap. -/
def StoresAnswer (s : State) (e : EnvAnswer) (o : Out) : Prop :=
  match e.data with
  | some _ => Passes (s.answered e) o
  | none => Traps s o 9

section Device
variable {s : State} (hq : s.quiet) (het : s.psr.et = true) (rd : Reg)
include hq het

theorem loadReg_answered (e : EnvAnswer) (v : Word → Word) :
    LoadsAnswer s e rd v (.next (s.loadReg rd true (s.answered e, e.data.map v))) := by
  unfold LoadsAnswer
  cases e.data with
  | none => exact traps_dataAccess (s := s) hq het rfl rfl
  | some w => exact writesReg_of_quiet (s := s.answered e) hq .rdWrite rd (v w)

theorem loadWord_device : AccessMeets (fun s asi a => s.loadWord asi a rd) s fun asi a o =>
    a.toNat % 4 = 0 → s.onDevice asi a = true →
      LoadsAnswer s (Config.envRead s.tick s.env .read asi (wordAddress a) 0b1111#4) rd (fun w => w) o := by
  intro asi a ha hd
  have hload := loadReg_answered hq het rd (Config.envRead s.tick s.env .read asi (wordAddress a) 0b1111#4) fun w => w
  simpa [State.loadWord, aligned_true ha, State.readWord, State.memoryRead, hd] using hload

theorem loadUnsignedByte_device : AccessMeets (fun s asi a => s.loadUnsignedByte asi a rd) s fun asi a o =>
    s.onDevice asi a = true →
      LoadsAnswer s (Config.envRead s.tick s.env .read asi (wordAddress a) (byteMask a)) rd
        (fun w => (selectByte w a).setWidth 32) o := by
  intro asi a hd
  have hload := loadReg_answered hq het rd (Config.envRead s.tick s.env .read asi (wordAddress a) (byteMask a))
    fun w => (selectByte w a).setWidth 32
  simpa [State.loadUnsignedByte, State.readByte, State.memoryRead, hd, Function.comp_def] using hload

theorem storeWord_device : AccessMeets (fun s asi a => s.storeWord asi a rd) s fun asi a o =>
    a.toNat % 4 = 0 → s.onDevice asi a = true →
      StoresAnswer s (Config.envWrite s.tick s.env asi (wordAddress a) 0b1111#4 (s.r rd)) o := by
  intro asi a ha hd
  simp only [State.storeWord, aligned_true ha, State.writeWord, State.memoryWrite, hd, if_true, State.reg_quiet hq]
  generalize Config.envWrite s.tick s.env asi (wordAddress a) 0b1111#4 (s.r rd) = e
  unfold StoresAnswer
  cases e.data with
  | none => exact traps_dataAccess hq het rfl rfl
  | some w => exact passes_advance (s.answered e)

end Device

/-- Settles O30: of each access, what its first refusal, its second refusal and a device's answer come to (`AccessMeets`), then
for each instruction its access. -/
theorem memoryExceptionTraps : Obligations.MemoryExceptionTraps := by
  unfold Obligations.MemoryExceptionTraps
  refine ⟨fun s rd rs1 rs2 src asi hq het => ?first, fun s rd rs1 rs2 src asi k hwf hq het => ?second,
    fun s rd rs1 src het hready => ?floating, fun s rs1 src k e rest hwf hq het hs hef hp hm hqueue => ?queue,
    fun s rd rs1 src het hready => ?coprocessor, fun s rd rs1 rs2 src asi hq het => ?device⟩
  case first =>
    exact ⟨(loadSignedByte_refused hq het rd).bothForms hq rs1 rs2 src asi,
      (loadUnsignedByte_refused hq het rd).bothForms hq rs1 rs2 src asi,
      (loadSignedHalf_refused hq het rd).bothForms hq rs1 rs2 src asi,
      (loadUnsignedHalf_refused hq het rd).bothForms hq rs1 rs2 src asi,
      (loadWord_refused hq het rd).bothForms hq rs1 rs2 src asi,
      (loadDouble_refused hq het rd).bothForms hq rs1 rs2 src asi,
      (loadStoreByte_refused hq het rd).bothForms hq rs1 rs2 src asi,
      (swapWord_refused hq het rd).bothForms hq rs1 rs2 src asi,
      (storeByte_refused hq het rd).bothForms hq rs1 rs2 src asi,
      (storeHalf_refused hq het rd).bothForms hq rs1 rs2 src asi,
      (storeWord_refused hq het rd).bothForms hq rs1 rs2 src asi,
      (storeDouble_refused hq het rd).bothForms hq rs1 rs2 src asi⟩
  case second =>
    exact ⟨(loadDouble_secondRefused hq het rd k).bothForms hq rs1 rs2 src asi,
      (storeDouble_secondRefused hq het hwf rd k).bothForms hq rs1 rs2 src asi,
      (loadStoreByte_secondRefused hq het rd k).bothForms hq rs1 rs2 src asi,
      (swapWord_secondRefused hq het rd k).bothForms hq rs1 rs2 src asi⟩
  case floating =>
    have ⟨hq, _, _, hm, hn⟩ := hready
    have hpending : s.fpu.mode ≠ .exceptionPending := by rw [hm]; decide
    have hg := State.fpGuard_ready hready
    refine ⟨fun hr => ⟨?_, ?_, ?_⟩, fun k => ?_, fun hr => ⟨?_, ?_, ?_, ?_⟩, fun k hwf hl hr ha => ?_⟩
    · exact (loadSingleFp_refused hq het rd).held hready (waitUse [rd]) rs1 src hr
    · exact (loadDoubleFp_refused hq het rd).held hready (waitUse [pairHigh rd, pairLow rd]) rs1 src hr
    · exact fun ha => (loadFsr_refused hq het).guarded hq hg rs1 src ha hr
    · exact (loadDoubleFp_secondRefused hq het rd k).held hready (waitUse [pairHigh rd, pairLow rd]) rs1 src
    · exact fun ha => (storeOfWord_refused hq het fun s => s.freg rd).held hready (waitWrite [rd]) rs1 src ha hr
    · exact fun ha => (storeOfPair_refused hq het (fun s => s.freg (pairHigh rd)) fun s => s.freg (pairLow rd)).held hready
        (waitWrite [pairHigh rd, pairLow rd]) rs1 src ha hr
    · exact fun ha => (storeFsr_refused hq het hn hpending).guarded hq hg rs1 src ha hr
    · exact fun ha hs => (storeQueue_refused hq het).privileged hq hs hg rs1 src ha hr
    · exact (storeOfPair_secondRefused hq het hwf k (fun s => s.freg (pairHigh rd)) fun s => s.freg (pairLow rd)).held hready
        (waitWrite [pairHigh rd, pairLow rd]) rs1 src ha hl hr
  case queue =>
    exact (storeQueue_secondRefused hq het hwf k hm hqueue).privileged hq hs
      (State.fpGuard_enabled hq hef hp (by rw [hm]; decide)) rs1 src
  case coprocessor =>
    have hq : s.quiet := hready.1
    have hg := State.cpGuard_ready hready
    refine ⟨fun hr => ⟨?_, ?_, ?_⟩, fun k => ?_, fun hr => ⟨?_, ?_, ?_, ?_⟩, fun k hwf hl hr ha => ⟨?_, fun hs => ?_⟩⟩
    · exact (loadCp_refused hq het fun t w => t.setCreg rd w).guarded hq hg rs1 src hr
    · exact (loadCp_refused hq het State.setCsr).guarded hq hg rs1 src hr
    · exact (loadDoubleCp_refused hq het rd).guarded hq hg rs1 src hr
    · exact (loadDoubleCp_secondRefused hq het rd k).guarded hq hg rs1 src
    · exact fun ha => (storeCp_refused hq het fun s => s.creg rd).guarded hq hg rs1 src ha hr
    · exact fun ha => (storeDoubleCp_refused hq het (fun s => s.creg (evenOf rd)) fun s => s.creg (oddOf rd)).guarded hq hg
        rs1 src ha hr
    · exact fun ha => (storeCp_refused hq het fun s => s.cp.csr).guarded hq hg rs1 src ha hr
    · exact fun ha hs => (storeCpQueue_refused hq het).privileged hq hs hg rs1 src ha hr
    · exact (storeDoubleCp_secondRefused hq het hwf k (fun s => s.creg (evenOf rd)) fun s => s.creg (oddOf rd)).guarded hq hg
        rs1 src hl hr ha
    · exact (storeCpQueue_secondRefused hq het hwf k).privileged hq hs hg rs1 src hl hr ha
  case device =>
    exact ⟨(loadWord_device hq het rd).bothForms hq rs1 rs2 src asi,
      (loadUnsignedByte_device hq het rd).bothForms hq rs1 rs2 src asi,
      (storeWord_device hq het rd).bothForms hq rs1 rs2 src asi⟩

/-! ### Example words -/

/-- Settles O3: each word is decoded by evaluation. -/
theorem wordsOfTheSpecDecode : Obligations.WordsOfTheSpecDecode := by
  unfold Obligations.WordsOfTheSpecDecode
  refine ⟨?_, ?_, ?_, ?_, ?_, ?_, ?_, ?_, ?_, ?_⟩ <;> rfl

end Sys2Proof.Machine

/-! ## Arithmetic, logical instructions, shifts, windows (O19, O20, O21, O22, O23, O24)

An instruction without delayed writes in flight is an operation on the current window's operands, then one of three endings: a
register written, a register and icc written, a trap. The flags of the model are boolean forms of exact arithmetic. -/

namespace Sys2Proof.Machine

/-! ### Flags as exact arithmetic -/

theorem wordOfBool_eq_ite (b : Bool) : wordOfBool b = if b then 1 else 0 := by cases b <;> rfl

/-- The flags of an addition with a carry in (R262): r is the sum modulo two to the 32. -/
theorem addFlags_exact {a b r : Word} {c : Nat} (hc : c ≤ 1) (hr : r.toNat = (a.toNat + b.toNat + c) % 2 ^ 32) :
    addFlags a b r = { n := r.msb, z := decide (r = 0), v := decide (a.toInt + b.toInt + c ≠ r.toInt),
                       c := decide (2 ^ 32 ≤ a.toNat + b.toNat + c) } := by
  have ha := a.isLt
  have hb := b.isLt
  have hv : ((a.msb && b.msb && !r.msb) || (!a.msb && !b.msb && r.msb)) = decide (a.toInt + b.toInt + c ≠ r.toInt) := by
    rw [Bool.eq_iff_iff]
    simp only [BitVec.msb_eq_decide, BitVec.toInt_eq_toNat_cond, Bool.or_eq_true, Bool.and_eq_true, Bool.not_eq_true',
      decide_eq_true_eq, decide_eq_false_iff_not]
    split <;> split <;> split <;> omega
  have hcarry : ((a.msb && b.msb) || (!r.msb && (a.msb || b.msb))) = decide (2 ^ 32 ≤ a.toNat + b.toNat + c) := by
    rw [Bool.eq_iff_iff]
    simp only [BitVec.msb_eq_decide, Bool.or_eq_true, Bool.and_eq_true, Bool.not_eq_true', decide_eq_true_eq,
      decide_eq_false_iff_not]
    omega
  simp only [addFlags, hv, hcarry]
  rfl

/-- The flags of a subtraction with a borrow in (R263): r is the difference modulo two to the 32. -/
theorem subFlags_exact {a b r : Word} {c : Nat} (hc : c ≤ 1) (hr : a.toNat = (r.toNat + b.toNat + c) % 2 ^ 32) :
    subFlags a b r = { n := r.msb, z := decide (r = 0), v := decide (a.toInt - b.toInt - c ≠ r.toInt),
                       c := decide (a.toNat < b.toNat + c) } := by
  have hb := b.isLt
  have hlt := r.isLt
  have hv : ((a.msb && !b.msb && !r.msb) || (!a.msb && b.msb && r.msb)) = decide (a.toInt - b.toInt - c ≠ r.toInt) := by
    rw [Bool.eq_iff_iff]
    simp only [BitVec.msb_eq_decide, BitVec.toInt_eq_toNat_cond, Bool.or_eq_true, Bool.and_eq_true, Bool.not_eq_true',
      decide_eq_true_eq, decide_eq_false_iff_not]
    split <;> split <;> split <;> omega
  have hborrow : ((!a.msb && b.msb) || (r.msb && (!a.msb || b.msb))) = decide (a.toNat < b.toNat + c) := by
    rw [Bool.eq_iff_iff]
    simp only [BitVec.msb_eq_decide, Bool.or_eq_true, Bool.and_eq_true, Bool.not_eq_true', decide_eq_true_eq,
      decide_eq_false_iff_not]
    omega
  simp only [subFlags, hv, hborrow]
  rfl

/-- The flags of ADDcc (R262). -/
theorem addFlags_add (a b : Word) :
    addFlags a b (a + b) =
      { n := (a + b).msb, z := decide (a + b = 0), v := decide (a.toInt + b.toInt ≠ (a + b).toInt),
        c := decide (2 ^ 32 ≤ a.toNat + b.toNat) } := by
  simpa using addFlags_exact (a := a) (b := b) (r := a + b) (c := 0) (by omega) (by simp)

/-- The flags of ADDXcc (R262). -/
theorem addFlags_addx (a b : Word) (carry : Bool) :
    let c : Nat := if carry then 1 else 0
    let r : Word := a + b + if carry then 1 else 0
    addFlags a b r = { n := r.msb, z := decide (r = 0), v := decide (a.toInt + b.toInt + c ≠ r.toInt),
                       c := decide (2 ^ 32 ≤ a.toNat + b.toNat + c) } := by
  cases carry
  · exact addFlags_exact (by decide) (by simp)
  · exact addFlags_exact (by decide) (by simp)

/-- The flags of SUBcc (R263). -/
theorem subFlags_sub (a b : Word) :
    subFlags a b (a - b) =
      { n := (a - b).msb, z := decide (a - b = 0), v := decide (a.toInt - b.toInt ≠ (a - b).toInt),
        c := decide (a.toNat < b.toNat) } := by
  simpa using subFlags_exact (a := a) (b := b) (r := a - b) (c := 0) (by omega) (by bv_omega)

/-- The flags of SUBXcc (R263). -/
theorem subFlags_subx (a b : Word) (carry : Bool) :
    let c : Nat := if carry then 1 else 0
    let r : Word := a - b - if carry then 1 else 0
    subFlags a b r = { n := r.msb, z := decide (r = 0), v := decide (a.toInt - b.toInt - c ≠ r.toInt),
                       c := decide (a.toNat < b.toNat + c) } := by
  cases carry
  · exact subFlags_exact (by decide) (by simp only [Bool.false_eq_true, if_false]; bv_omega)
  · exact subFlags_exact (by decide) (by simp only [if_true]; bv_omega)

/-- A nonzero tag is a remainder modulo four (R271). -/
theorem tagged_eq (v : Word) : tagged v = decide (v.toNat % 4 ≠ 0) := by
  have htag : v.extractLsb' 0 2 = 0 ↔ v.toNat % 4 = 0 := by
    rw [BitVec.toNat_eq, toNat_extract]
    simp
  rw [tagged, Bool.eq_iff_iff, bne_iff_ne, decide_eq_true_iff, ne_eq, htag]

/-- The tagged overflow condition with flags of exact arithmetic (R271). -/
theorem taggedOverflow_eq (a b : Word) (flags : Icc) :
    taggedOverflow a b flags = (flags.v || decide (a.toNat % 4 ≠ 0) || decide (b.toNat % 4 ≠ 0)) := by
  rw [taggedOverflow, tagged_eq, tagged_eq]

/-! ### Shifts as arithmetic -/

theorem shiftLeft_eq_mul (a : Word) (n : Nat) : a <<< n = BitVec.ofNat 32 (a.toNat * 2 ^ n) := by
  apply BitVec.eq_of_toNat_eq
  rw [BitVec.toNat_shiftLeft, BitVec.toNat_ofNat, Nat.shiftLeft_eq]

theorem ushiftRight_eq_div (a : Word) (n : Nat) : a >>> n = BitVec.ofNat 32 (a.toNat / 2 ^ n) := by
  apply BitVec.eq_of_toNat_eq
  rw [BitVec.toNat_ushiftRight, BitVec.toNat_ofNat, Nat.shiftRight_eq_div_pow, Nat.mod_eq_of_lt]
  exact (Nat.div_le_self _ _).trans_lt a.isLt

theorem sshiftRight_eq_div (a : Word) (n : Nat) : a.sshiftRight n = BitVec.ofInt 32 (a.toInt / 2 ^ n) := by
  unfold BitVec.sshiftRight
  rw [Int.shiftRight_eq_div_pow]
  norm_cast

theorem sethi_eq_mul (imm : BitVec 22) : imm ++ 0#10 = BitVec.ofNat 32 (imm.toNat * 1024) := by
  have h := imm.isLt
  apply BitVec.eq_of_toNat_eq
  rw [toNat_append_add, BitVec.toNat_ofNat, BitVec.toNat_ofNat]
  omega

/-- A word shifted right by one, a bit shifted in (R280). -/
theorem toNat_shiftIn (b : Bool) (a : Word) :
    (BitVec.ofBool b ++ a.extractLsb' 1 31).toNat = a.toNat / 2 + if b then 2 ^ 31 else 0 := by
  have h := a.isLt
  rw [toNat_append_add, toNat_extract, toNat_ofBool_of]
  cases b <;> simp only [if_true, Bool.false_eq_true, if_false] <;> omega

theorem shiftIn_eq_ofNat (b : Bool) (a : Word) :
    (BitVec.ofBool b ++ a.extractLsb' 1 31 : Word) = BitVec.ofNat 32 (a.toNat / 2 + if b then 2 ^ 31 else 0) := by
  rw [← toNat_shiftIn, BitVec.ofNat_toNat, BitVec.setWidth_eq]

theorem lowBit_eq (a : Word) : a.getLsbD 0 = decide (a.toNat % 2 = 1) := by
  rw [← BitVec.testBit_toNat, Nat.testBit_zero]

/-! ### Operations on the current window's operands -/

section Operations
variable {s : State} (hq : s.quiet) (rd rs1 : Reg)
include hq

/-- The shift count that SLL, SRL and SRA use (R296). -/
theorem State.shiftCount_quiet (count : ShiftCount) :
    s.shiftCount count = match count with
      | .reg rs2 => (s.r rs2).toNat % 32
      | .imm c => c.toNat := by
  cases count with
  | reg rs2 => simp only [State.shiftCount, State.reg_quiet hq]
  | imm c => rfl

/-- An operation on r[rs1] and the second operand, its result written to r[rd] (R260). -/
theorem writesReg_operation (src : Operand2) (f : Word → Word → Word) {v : Word} (hv : f (s.r rs1) (s.operand src) = v) :
    WritesReg s (.next (s.setReg .rdWrite rd (f (s.reg .rs1 rs1) (s.op2val src))).advance) rd v := by
  rw [State.reg_quiet hq, State.op2val_quiet hq, hv]
  exact writesReg_of_quiet hq .rdWrite rd v

/-- A shift of r[rs1], its result written to r[rd] (R296). -/
theorem writesReg_shift (count : ShiftCount) (f : Word → Nat → Word) {v : Word}
    (hv : f (s.r rs1) (s.shiftCount count) = v) :
    WritesReg s (.next (s.setReg .rdWrite rd (f (s.reg .rs1 rs1) (s.shiftCount count))).advance) rd v := by
  rw [State.reg_quiet hq, hv]
  exact writesReg_of_quiet hq .rdWrite rd v

/-- An operation on r[rs1] and the second operand, its result written to r[rd] and its flags to icc (R261). -/
theorem writesRegIcc_operation (src : Operand2) (f : Word → Word → Word) (flags : Word → Word → Icc) {v : Word} {icc : Icc}
    (hv : f (s.r rs1) (s.operand src) = v) (hicc : flags (s.r rs1) (s.operand src) = icc) :
    WritesRegIcc s
      (.next (s.writeFlagged rd (f (s.reg .rs1 rs1) (s.op2val src)) (flags (s.reg .rs1 rs1) (s.op2val src)))) rd v icc := by
  rw [State.reg_quiet hq, State.op2val_quiet hq, hv, hicc]
  exact writesRegIcc_of_quiet hq rd v icc

/-- A logical operation whose flags are those of its result (R264). -/
theorem writesRegIcc_logical (src : Operand2) (f : Word → Word → Word) {v : Word} (hv : f (s.r rs1) (s.operand src) = v) :
    WritesRegIcc s
      (.next (s.writeFlagged rd (f (s.reg .rs1 rs1) (s.op2val src)) (logicFlags (f (s.reg .rs1 rs1) (s.op2val src)))))
      rd v { n := v.msb, z := decide (v = 0), v := false, c := false } :=
  writesRegIcc_operation hq rd rs1 src f (fun a b => logicFlags (f a b)) hv (congrArg logicFlags hv)

end Operations

/-- Settles O19: each instruction is its operation, in the arithmetic of the statement. -/
theorem registerResults : Obligations.RegisterResults := by
  unfold Obligations.RegisterResults
  refine ⟨fun s rd rs1 src hq => ?_, fun s rd rs1 count imm hq => ?_⟩
  · have hcarry : s.carryWord = if s.psr.icc.c then 1 else 0 := by rw [State.carryWord_quiet hq, wordOfBool_eq_ite]
    refine ⟨?add, ?addx, ?sub, ?subx, ?and, ?andn, ?or, ?orn, ?xor, ?xnor⟩
    case add => exact writesReg_operation hq rd rs1 src (· + ·) rfl
    case addx => exact writesReg_operation hq rd rs1 src (fun a b => a + b + s.carryWord) (by rw [hcarry])
    case sub => exact writesReg_operation hq rd rs1 src (· - ·) rfl
    case subx => exact writesReg_operation hq rd rs1 src (fun a b => a - b - s.carryWord) (by rw [hcarry])
    case and => exact writesReg_operation hq rd rs1 src (· &&& ·) rfl
    case andn => exact writesReg_operation hq rd rs1 src (fun a b => a &&& ~~~b) rfl
    case or => exact writesReg_operation hq rd rs1 src (· ||| ·) rfl
    case orn => exact writesReg_operation hq rd rs1 src (fun a b => a ||| ~~~b) rfl
    case xor => exact writesReg_operation hq rd rs1 src (· ^^^ ·) rfl
    case xnor => exact writesReg_operation hq rd rs1 src (fun a b => a ^^^ ~~~b) BitVec.not_xor_right.symm
  · intro a n
    have hn : s.shiftCount count = n := State.shiftCount_quiet hq count
    refine ⟨?sll, ?srl, ?sra, ?sethi⟩
    case sll => exact writesReg_shift hq rd rs1 count (· <<< ·) (by rw [hn]; exact shiftLeft_eq_mul a n)
    case srl => exact writesReg_shift hq rd rs1 count (· >>> ·) (by rw [hn]; exact ushiftRight_eq_div a n)
    case sra => exact writesReg_shift hq rd rs1 count BitVec.sshiftRight (by rw [hn]; exact sshiftRight_eq_div a n)
    case sethi =>
      rw [← sethi_eq_mul]
      exact writesReg_of_quiet hq .rdWrite rd (imm ++ 0#10)

/-- Settles O20: each instruction is its operation, with the flags of exact arithmetic. -/
theorem flaggedResults : Obligations.FlaggedResults := by
  unfold Obligations.FlaggedResults
  intro s rd rs1 src hq a b c cw
  have hcarry : s.carryWord = cw := by rw [State.carryWord_quiet hq, wordOfBool_eq_ite]
  refine ⟨?addcc, ?addxcc, ?subcc, ?subxcc⟩
  case addcc =>
    exact writesRegIcc_operation hq rd rs1 src (· + ·) (fun a b => addFlags a b (a + b)) rfl (addFlags_add a b)
  case addxcc =>
    exact writesRegIcc_operation hq rd rs1 src (fun a b => a + b + s.carryWord)
      (fun a b => addFlags a b (a + b + s.carryWord)) (by rw [hcarry]) (by rw [hcarry]; exact addFlags_addx a b s.psr.icc.c)
  case subcc =>
    exact writesRegIcc_operation hq rd rs1 src (· - ·) (fun a b => subFlags a b (a - b)) rfl (subFlags_sub a b)
  case subxcc =>
    exact writesRegIcc_operation hq rd rs1 src (fun a b => a - b - s.carryWord)
      (fun a b => subFlags a b (a - b - s.carryWord)) (by rw [hcarry]) (by rw [hcarry]; exact subFlags_subx a b s.psr.icc.c)

/-- Settles O21: each instruction is its operation, with the flags of its result. -/
theorem logicalFlags : Obligations.LogicalFlags := by
  unfold Obligations.LogicalFlags
  intro s rd rs1 src hq a b
  refine ⟨?andcc, ?andncc, ?orcc, ?orncc, ?xorcc, ?xnorcc⟩
  case andcc => exact writesRegIcc_logical hq rd rs1 src (· &&& ·) rfl
  case andncc => exact writesRegIcc_logical hq rd rs1 src (fun a b => a &&& ~~~b) rfl
  case orcc => exact writesRegIcc_logical hq rd rs1 src (· ||| ·) rfl
  case orncc => exact writesRegIcc_logical hq rd rs1 src (fun a b => a ||| ~~~b) rfl
  case xorcc => exact writesRegIcc_logical hq rd rs1 src (· ^^^ ·) rfl
  case xnorcc => exact writesRegIcc_logical hq rd rs1 src (fun a b => a ^^^ ~~~b) BitVec.not_xor_right.symm

/-! ### Tagged arithmetic -/

/-- TADDccTV and TSUBccTV with a result and its flags (R273, R275). -/
def State.writeUntagged (s : State) (rd : Reg) (a b result : Word) (flags : Icc) : State :=
  if taggedOverflow a b flags then s.takeTrap .tagOverflow else s.writeFlagged rd result { flags with v := false }

section Tagged
variable {s : State} (hq : s.quiet) (rd rs1 : Reg) (src : Operand2)

theorem exec_taddcctv :
    exec (.taddcctv rd rs1 src) s =
      .next (s.writeUntagged rd (s.reg .rs1 rs1) (s.op2val src) (s.reg .rs1 rs1 + s.op2val src)
        (addFlags (s.reg .rs1 rs1) (s.op2val src) (s.reg .rs1 rs1 + s.op2val src))) := rfl

theorem exec_tsubcctv :
    exec (.tsubcctv rd rs1 src) s =
      .next (s.writeUntagged rd (s.reg .rs1 rs1) (s.op2val src) (s.reg .rs1 rs1 - s.op2val src)
        (subFlags (s.reg .rs1 rs1) (s.op2val src) (s.reg .rs1 rs1 - s.op2val src))) := rfl

include hq

theorem writeUntagged_writes {a b result : Word} {flags : Icc} (h : taggedOverflow a b flags = false) :
    WritesRegIcc s (.next (s.writeUntagged rd a b result flags)) rd result { flags with v := false } := by
  rw [State.writeUntagged, h]
  exact writesRegIcc_of_quiet hq rd result _

theorem writeUntagged_traps (het : s.psr.et = true) {a b result : Word} {flags : Icc}
    (h : taggedOverflow a b flags = true) : Traps s (.next (s.writeUntagged rd a b result flags)) 10 := by
  rw [State.writeUntagged, h]
  exact traps_of_quiet hq het .tagOverflow

end Tagged

/-- Settles O22: the trapping forms go by the same condition that the others write to V. -/
theorem taggedArithmetic : Obligations.TaggedArithmetic := by
  unfold Obligations.TaggedArithmetic
  intro s rd rs1 src hq a b va vs ca cs
  have hadd : taggedOverflow a b (addFlags a b (a + b)) = va := by rw [taggedOverflow_eq, addFlags_add]
  have hsub : taggedOverflow a b (subFlags a b (a - b)) = vs := by rw [taggedOverflow_eq, subFlags_sub]
  rw [exec_taddcctv, exec_tsubcctv, State.reg_quiet hq, State.op2val_quiet hq]
  refine ⟨?taddcc, ?tsubcc, fun hva => ?taddcctv, fun hvs => ?tsubcctv, fun hva het => ?taddTrap, fun hvs het => ?tsubTrap⟩
  case taddcc =>
    refine writesRegIcc_operation hq rd rs1 src (· + ·)
      (fun a b => { addFlags a b (a + b) with v := taggedOverflow a b (addFlags a b (a + b)) }) rfl ?_
    show ({ addFlags a b (a + b) with v := taggedOverflow a b (addFlags a b (a + b)) } : Icc) = _
    rw [hadd, addFlags_add]
  case tsubcc =>
    refine writesRegIcc_operation hq rd rs1 src (· - ·)
      (fun a b => { subFlags a b (a - b) with v := taggedOverflow a b (subFlags a b (a - b)) }) rfl ?_
    show ({ subFlags a b (a - b) with v := taggedOverflow a b (subFlags a b (a - b)) } : Icc) = _
    rw [hsub, subFlags_sub]
  case taddcctv =>
    have hw := writeUntagged_writes hq rd (result := a + b) (hadd.trans hva)
    rwa [addFlags_add] at hw ⊢
  case tsubcctv =>
    have hw := writeUntagged_writes hq rd (result := a - b) (hsub.trans hvs)
    rwa [subFlags_sub] at hw ⊢
  case taddTrap => exact writeUntagged_traps hq rd het (hadd.trans hva)
  case tsubTrap => exact writeUntagged_traps hq rd het (hsub.trans hvs)

/-! ### Multiply step -/

theorem State.putY_quiet {s : State} (hq : s.quiet) (v : Word) : s.putY v = { s with y := v } := by
  have hflight : s.flight = [] := hq
  rw [State.putY, State.settled_quiet hq, ← hflight]

/-- MULScc in a state without delayed writes in flight: a flagged write after the write of Y (R280). -/
theorem exec_mulscc_quiet {s : State} (hq : s.quiet) (rd rs1 : Reg) (src : Operand2) :
    let x := BitVec.ofBool (s.psr.icc.n ^^ s.psr.icc.v) ++ (s.r rs1).extractLsb' 1 31
    let b := if s.y.getLsbD 0 then s.operand src else 0
    exec (.mulscc rd rs1 src) s =
      .next (({ s with y := BitVec.ofBool ((s.r rs1).getLsbD 0) ++ s.y.extractLsb' 1 31 } : State).writeFlagged rd (x + b)
        (addFlags x b (x + b))) := by
  show execMulscc rd rs1 src s = _
  simp only [execMulscc, State.putY_quiet hq, State.seeIcc_quiet hq, State.seeY_quiet hq, State.reg_quiet hq,
    State.op2val_quiet hq]

/-- Settles O23: a flagged write in the state where Y is written. -/
theorem multiplyStep : Obligations.MultiplyStep := by
  unfold Obligations.MultiplyStep
  intro s rd rs1 src hq a x b
  have hx : BitVec.ofBool (s.psr.icc.n ^^ s.psr.icc.v) ++ a.extractLsb' 1 31 = x := by
    simp only [shiftIn_eq_ofNat, Bool.xor_iff_ne, x]
  have hb : (if s.y.getLsbD 0 then s.operand src else 0) = b := by simp only [lowBit_eq, decide_eq_true_eq, b]
  have hy : (BitVec.ofBool (a.getLsbD 0) ++ s.y.extractLsb' 1 31).toNat =
      s.y.toNat / 2 + if a.toNat % 2 = 1 then 2 ^ 31 else 0 := by
    simp only [toNat_shiftIn, lowBit_eq, decide_eq_true_eq]
  generalize hyv : BitVec.ofBool (a.getLsbD 0) ++ s.y.extractLsb' 1 31 = y at hy
  have hexec : exec (.mulscc rd rs1 src) s =
      .next (({ s with y := y } : State).writeFlagged rd (x + b) (addFlags x b (x + b))) := by
    rw [← hx, ← hb, ← hyv]
    exact exec_mulscc_quiet hq rd rs1 src
  have hq' : ({ s with y := y } : State).quiet := hq
  obtain ⟨t, ho, hpcs, hrd, hicc, hregs, hmem, honly⟩ := writesRegIcc_of_quiet hq' rd (x + b) (addFlags x b (x + b))
  have hty : t.y = y := by rw [honly]
  refine ⟨t, hexec.trans ho, hpcs, hrd, by rw [hty, hy], by rw [hicc, addFlags_add], hregs, hmem, ?_⟩
  rw [hty]
  exact honly

/-! ### Windows -/

theorem State.putCwp_quiet {s : State} (hq : s.quiet) (w : BitVec 5) :
    s.putCwp w = { s with psr := { s.psr with cwp := w } } := by
  have hflight : s.flight = [] := hq
  rw [State.putCwp, State.settled_quiet hq, ← hflight]

/-- The instruction completes in another window: r[rd] of it holds a value, and nothing else changes (R303). -/
def Rotates (s : State) (o : Out) (w : BitVec 5) (rd : Reg) (v : Word) : Prop :=
  ∃ t, o = .next t ∧ Advanced s t ∧ t.psr = { s.psr with cwp := w } ∧ Holds t w rd v ∧ RegsKeptBut s t w rd ∧ MemKept s t ∧
    t = { s with pc := t.pc, npc := t.npc, globals := t.globals, windows := t.windows, prev := s.current, stale := s.unflushed,
                 psr := t.psr }

section Windows
variable {s : State} (hq : s.quiet) (w : BitVec 5) (t : Trap) (rd : Reg) (v : Word)
include hq

/-- A change to a window whose WIM bit is clear: a register write in the state where CWP names it. -/
theorem changeWindow_rotates (hw : s.wim.getLsbD w.toNat = false) : Rotates s (.next (s.changeWindow w t rd v)) w rd v := by
  obtain ⟨hset, -⟩ | ⟨-, hclear⟩ := s.changeWindow_cases w t rd v
  · rw [State.seeWim_quiet hq, hw] at hset
    cases hset
  have hq' : ({ s with psr := { s.psr with cwp := w } } : State).quiet := hq
  obtain ⟨u, ho, hpcs, hrd, hregs, hmem, honly⟩ := writesReg_of_quiet hq' .rdWrite rd v
  rw [State.setReg_quiet hq'] at ho
  rw [hclear, State.putCwp_quiet hq]
  have hpsr : u.psr = { s.psr with cwp := w } := by rw [honly]
  refine ⟨u, ho, hpcs, hpsr, hrd, hregs, hmem, ?_⟩
  rw [hpsr]
  exact honly

/-- A change to a window whose WIM bit is set: the window trap. -/
theorem changeWindow_traps (hw : s.wim.getLsbD w.toNat = true) (het : s.psr.et = true) :
    Traps s (.next (s.changeWindow w t rd v)) (trapType t) := by
  obtain ⟨-, htrap⟩ | ⟨hclear, -⟩ := s.changeWindow_cases w t rd v
  · rw [htrap]
    exact traps_of_quiet hq het t
  · rw [State.seeWim_quiet hq, hw] at hclear
    cases hclear

theorem exec_save_quiet (rs1 : Reg) (src : Operand2) :
    exec (.save rd rs1 src) s =
      .next (s.changeWindow (windowBelow s.cfg s.psr.cwp) .windowOverflow rd (s.address rs1 src)) := by
  rw [← State.seeCwp_quiet hq .window, ← State.ea_quiet hq]
  rfl

theorem exec_restore_quiet (rs1 : Reg) (src : Operand2) :
    exec (.restore rd rs1 src) s =
      .next (s.changeWindow (windowAbove s.cfg s.psr.cwp) .windowUnderflow rd (s.address rs1 src)) := by
  rw [← State.seeCwp_quiet hq .window, ← State.ea_quiet hq]
  rfl

end Windows

/-- Settles O24: both are the change of window, by the WIM bit of the window they go to. -/
theorem windowRotation : Obligations.WindowRotation := by
  unfold Obligations.WindowRotation
  refine ⟨fun s rd rs1 src hq => ?_, fun s rd rs1 src hq => ?_⟩
  · rw [exec_save_quiet hq]
    exact ⟨changeWindow_rotates hq _ _ rd _, changeWindow_traps hq _ .windowOverflow rd _⟩
  · rw [exec_restore_quiet hq]
    exact ⟨changeWindow_rotates hq _ _ rd _, changeWindow_traps hq _ .windowUnderflow rd _⟩

end Sys2Proof.Machine

/-! ## Control transfers and Ticc (O32, O33, O34, O36, O37, O38)

A branch is one of three shapes (always, never, on a condition) behind guards that the hypotheses open; CALL, JMPL and RETT are a
change of registers or of the PSR, then a transfer. -/

namespace Sys2Proof.Machine

/-! ### Tests of the condition codes -/

theorem iccLess_eq (i : Icc) : iccLess i = (i.n != i.v) := rfl

theorem iccLessEqual_eq (i : Icc) : iccLessEqual i = (i.z || (i.n != i.v)) := rfl

theorem iccGreaterEqual_eq (i : Icc) : iccGreaterEqual i = (i.n == i.v) := Bool.not_not _

theorem iccGreater_eq (i : Icc) : iccGreater i = (!i.z && (i.n == i.v)) := by
  rw [← iccGreaterEqual_eq]
  exact Bool.not_or _ _

theorem iccGreaterUnsigned_eq (i : Icc) : iccGreaterUnsigned i = (!i.c && !i.z) := Bool.not_or _ _

/-! ### The sets of condition values -/

section ConditionSets
variable (a b d c : BitVec 2)

theorem ccIn_one : ccIn [a] c = true ↔ c = a := by simp [ccIn]

theorem ccIn_two : ccIn [a, b] c = true ↔ c = a ∨ c = b := by simp [ccIn]

theorem ccIn_three : ccIn [a, b, d] c = true ↔ c = a ∨ c = b ∨ c = d := by simp [ccIn]

end ConditionSets

/-! ### Branches -/

/-- The FPU takes no step while it does not execute (R435). -/
theorem State.fpuStepsWhile_stopped {s : State} (hm : s.fpu.mode ≠ .execute) (wait : List FqEntry → Bool) (n : Nat) :
    s.fpuStepsWhile wait n = s := by
  cases n with
  | zero => rfl
  | succ n => simp [State.fpuStepsWhile, hm]

/-- A floating-point branch is not held up where the FPU is ready, and neither where it is in exception mode (R440). -/
theorem State.fpBranch_open {s : State}
    (h : s.fpReady ∨ (s.quiet ∧ s.psr.ef = true ∧ s.cfg.fpuPresent = true ∧ s.fpu.mode = .exception))
    (wait : List FqEntry → Bool) (body : State → State) : (s.fpGuard fun s => s.fpHold wait body) = body s := by
  rcases h with hready | ⟨hq, hef, hp, hm⟩
  · rw [State.fpGuard_ready hready, State.fpHold_ready hready]
  · have hhold : s.holdWhile wait = s := State.fpuStepsWhile_stopped (by rw [hm]; decide) wait _
    rw [State.fpGuard_enabled hq hef hp (by rw [hm]; decide)]
    simp [State.fpHold, hhold, hm]

section Branches
variable {s : State} (hc : s.prev.conditional = false)
include hc

theorem branchAlways_transfers (annul : Bool) (disp : BitVec 22) :
    Transfers s (.next (s.branchAlways annul disp)) (s.pc + BitVec.ofInt 32 (4 * disp.toInt)) annul := by
  rw [← branchTarget_eq]
  exact transfers_of_uncoupled hc _ _

theorem branchNever_transfers (annul : Bool) : Transfers s (.next (s.branchNever annul)) (s.npc + 4) annul :=
  transfers_of_uncoupled hc _ _

/-- Bicc on a condition. -/
theorem branchIcc_transfers (hq : s.quiet) (test : Icc → Bool) {c : Bool} (h : test s.psr.icc = c) (annul : Bool)
    (disp : BitVec 22) :
    if c = true then
      Transfers s (.next (s.branchIcc test annul disp)) (s.pc + BitVec.ofInt 32 (4 * disp.toInt)) false
    else Transfers s (.next (s.branchIcc test annul disp)) (s.npc + 4) annul := by
  rw [State.branchIcc, State.seeIcc_quiet hq]
  exact branch_transfers hc _ _ (by rw [h]) annul disp

/-- FBfcc on a set of the values of fcc, not directly after a floating-point instruction. -/
theorem branchFcc_transfers
    (hopen : ∀ (wait : List FqEntry → Bool) (body : State → State), (s.fpGuard fun s => s.fpHold wait body) = body s)
    (hprev : s.prev.fp = false) (values : List (BitVec 2)) {p : Prop} [Decidable p]
    (h : ccIn values s.fpu.fsr.fcc = true ↔ p) (annul : Bool) (disp : BitVec 22) :
    if p then Transfers s (.next (s.branchFcc values annul disp)) (s.pc + BitVec.ofInt 32 (4 * disp.toInt)) false
    else Transfers s (.next (s.branchFcc values annul disp)) (s.npc + 4) annul := by
  rw [State.branchFcc, hopen, hprev]
  exact branch_transfers hc _ p h annul disp

/-- CBccc on a set of the values of bp_CP_cc, not directly after a coprocessor instruction. -/
theorem branchCcc_transfers (hready : s.cpReady) (hprev : s.prev.cp = false) (values : List (BitVec 2)) {p : Prop}
    [Decidable p] (h : ccIn values (Config.cpCc s.cp) = true ↔ p) (annul : Bool) (disp : BitVec 22) :
    if p then Transfers s (.next (s.branchCcc values annul disp)) (s.pc + BitVec.ofInt 32 (4 * disp.toInt)) false
    else Transfers s (.next (s.branchCcc values annul disp)) (s.npc + 4) annul := by
  rw [State.branchCcc, State.cpGuard_ready hready, hprev]
  exact branch_transfers hc _ p h annul disp

end Branches

/-- Settles O32: each instruction is a branch on its test of icc, in the terms of the statement. -/
theorem integerBranches : Obligations.IntegerBranches := by
  unfold Obligations.IntegerBranches
  intro s annul disp hq hc i
  have branches (test : Icc → Bool) {c : Bool} (h : test s.psr.icc = c) := branchIcc_transfers hc hq test h annul disp
  refine ⟨?bn, ?be, ?ble, ?bl, ?bleu, ?bcs, ?bneg, ?bvs, ?ba, ?bne, ?bg, ?bge, ?bgu, ?bcc, ?bpos, ?bvc⟩
  case bn => exact branchNever_transfers hc annul
  case be => exact branches iccEqual rfl
  case ble => exact branches iccLessEqual (iccLessEqual_eq i)
  case bl => exact branches iccLess (iccLess_eq i)
  case bleu => exact branches iccLessEqualUnsigned rfl
  case bcs => exact branches iccCarrySet rfl
  case bneg => exact branches iccNegative rfl
  case bvs => exact branches iccOverflowSet rfl
  case ba => exact branchAlways_transfers hc annul disp
  case bne => exact branches iccNotEqual rfl
  case bg => exact branches iccGreater (iccGreater_eq i)
  case bge => exact branches iccGreaterEqual (iccGreaterEqual_eq i)
  case bgu => exact branches iccGreaterUnsigned (iccGreaterUnsigned_eq i)
  case bcc => exact branches iccCarryClear rfl
  case bpos => exact branches iccPositive rfl
  case bvc => exact branches iccOverflowClear rfl

/-- Settles O33: each instruction is a branch on its set of values of fcc, behind guards that let it through in both modes. -/
theorem floatingBranches : Obligations.FloatingBranches := by
  unfold Obligations.FloatingBranches
  intro s annul disp hfpu hc hprev c
  have hopen := State.fpBranch_open hfpu
  have branches (values : List (BitVec 2)) {p : Prop} [Decidable p] (h : ccIn values c = true ↔ p) :=
    branchFcc_transfers hc hopen hprev values h annul disp
  have opened (body : State → State) {target : Word} {a : Bool} (h : Transfers s (.next (body s)) target a) :
      Transfers s (.next (s.fpGuard fun s => s.fpHold waitCompare body)) target a := by rwa [hopen]
  refine ⟨?fbn, ?fbne, ?fblg, ?fbul, ?fbl, ?fbug, ?fbg, ?fbu, ?fba, ?fbe, ?fbue, ?fbge, ?fbuge, ?fble, ?fbule, ?fbo⟩
  case fbn => exact opened (·.branchNever annul) (branchNever_transfers hc annul)
  case fbne => exact branches [1, 2, 3] (ccIn_three 1 2 3 c)
  case fblg => exact branches [1, 2] (ccIn_two 1 2 c)
  case fbul => exact branches [1, 3] (ccIn_two 1 3 c)
  case fbl => exact branches [1] (ccIn_one 1 c)
  case fbug => exact branches [2, 3] (ccIn_two 2 3 c)
  case fbg => exact branches [2] (ccIn_one 2 c)
  case fbu => exact branches [3] (ccIn_one 3 c)
  case fba => exact opened (·.branchAlways annul disp) (branchAlways_transfers hc annul disp)
  case fbe => exact branches [0] (ccIn_one 0 c)
  case fbue => exact branches [0, 3] (ccIn_two 0 3 c)
  case fbge => exact branches [0, 2] (ccIn_two 0 2 c)
  case fbuge => exact branches [0, 2, 3] (ccIn_three 0 2 3 c)
  case fble => exact branches [0, 1] (ccIn_two 0 1 c)
  case fbule => exact branches [0, 1, 3] (ccIn_three 0 1 3 c)
  case fbo => exact branches [0, 1, 2] (ccIn_three 0 1 2 c)

/-- Settles O34: each instruction is a branch on its set of values of bp_CP_cc. -/
theorem coprocessorBranches : Obligations.CoprocessorBranches := by
  unfold Obligations.CoprocessorBranches
  intro s annul disp hready hc hprev c
  have branches (values : List (BitVec 2)) {p : Prop} [Decidable p] (h : ccIn values c = true ↔ p) :=
    branchCcc_transfers hc hready hprev values h annul disp
  have opened (body : State → State) {target : Word} {a : Bool} (h : Transfers s (.next (body s)) target a) :
      Transfers s (.next (s.cpGuard body)) target a := by rwa [State.cpGuard_ready hready]
  refine ⟨?cbn, ?cb123, ?cb12, ?cb13, ?cb1, ?cb23, ?cb2, ?cb3, ?cba, ?cb0, ?cb03, ?cb02, ?cb023, ?cb01, ?cb013, ?cb012⟩
  case cbn => exact opened (·.branchNever annul) (branchNever_transfers hc annul)
  case cb123 => exact branches [1, 2, 3] (ccIn_three 1 2 3 c)
  case cb12 => exact branches [1, 2] (ccIn_two 1 2 c)
  case cb13 => exact branches [1, 3] (ccIn_two 1 3 c)
  case cb1 => exact branches [1] (ccIn_one 1 c)
  case cb23 => exact branches [2, 3] (ccIn_two 2 3 c)
  case cb2 => exact branches [2] (ccIn_one 2 c)
  case cb3 => exact branches [3] (ccIn_one 3 c)
  case cba => exact opened (·.branchAlways annul disp) (branchAlways_transfers hc annul disp)
  case cb0 => exact branches [0] (ccIn_one 0 c)
  case cb03 => exact branches [0, 3] (ccIn_two 0 3 c)
  case cb02 => exact branches [0, 2] (ccIn_two 0 2 c)
  case cb023 => exact branches [0, 2, 3] (ccIn_three 0 2 3 c)
  case cb01 => exact branches [0, 1] (ccIn_two 0 1 c)
  case cb013 => exact branches [0, 1, 3] (ccIn_three 0 1 3 c)
  case cb012 => exact branches [0, 1, 2] (ccIn_three 0 1 2 c)

/-! ### CALL and JMPL -/

/-- A transfer that annuls nothing and that no conditional branch comes directly before. -/
theorem State.transfer_uncoupled {s : State} (hc : s.prev.conditional = false) (target : Word) :
    s.transfer target false = (s.setPcs s.npc target).retire := by
  simp [State.transfer, hc]

/-- The target of a CALL, as arithmetic. -/
theorem callTarget_eq (pc : Word) (d : BitVec 30) : callTarget pc d = pc + BitVec.ofNat 32 (4 * d.toNat) := by
  unfold callTarget
  congr 1
  apply BitVec.eq_of_toNat_eq
  have hd := d.isLt
  rw [toNat_append_add, BitVec.toNat_ofNat, BitVec.toNat_ofNat]
  omega

/-- The instruction completes: r[rd] holds its address, PC takes nPC and nPC a target, and nothing else changes (R370, R372). -/
def Links (s : State) (o : Out) (rd : Reg) (target : Word) : Prop :=
  ∃ t, o = .next t ∧ t.pc = s.npc ∧ t.npc = target ∧ Holds t s.psr.cwp rd s.pc ∧ RegsKeptBut s t s.psr.cwp rd ∧
    MemKept s t ∧ OnlyRegs s t

section Jumps
variable {s : State} (hq : s.quiet)
include hq

/-- A register written with the instruction's address, then a transfer. -/
theorem links_of_quiet (hc : s.prev.conditional = false) (u : Use) (rd : Reg) (target : Word) :
    Links s (.next ((s.setReg u rd s.pc).transfer target false)) rd target := by
  have hc' : (s.setRegIn s.psr.cwp rd s.pc).prev.conditional = false := by rw [State.setRegIn_prev, hc]
  rw [State.setReg_quiet hq, State.transfer_uncoupled hc']
  have hregs (w : BitVec 5) (n : Reg) :
      (((s.setRegIn s.psr.cwp rd s.pc).setPcs (s.setRegIn s.psr.cwp rd s.pc).npc target).retire).regIn w n =
        (s.setRegIn s.psr.cwp rd s.pc).regIn w n := rfl
  refine ⟨_, rfl, by simp, by simp, ?_, fun w n hn => ?_, fun k => by simp, ?_⟩
  · unfold Holds
    rw [hregs]
    exact State.setRegIn_holds s _ rd s.pc
  · rw [hregs]
    exact State.setRegIn_kept s _ rd s.pc w n hn
  · have honly : s.onlyRegsChanged (s.setRegIn s.psr.cwp rd s.pc) := State.setRegIn_only s _ rd s.pc
    unfold State.onlyRegsChanged at honly
    unfold OnlyRegs
    rw [honly]
    rfl

theorem exec_jmpl_quiet (rd rs1 : Reg) (src : Operand2) :
    exec (.jmpl rd rs1 src) s =
      .next (if aligned (s.address rs1 src) 4 then (s.setReg .rdWrite rd s.pc).transfer (s.address rs1 src) false
        else s.takeTrap .memAddressNotAligned) := by
  rw [← State.ea_quiet hq]
  rfl

end Jumps

/-- Settles O36: both write a register with the instruction's address and transfer; JMPL traps at a misaligned address. -/
theorem callAndJump : Obligations.CallAndJump := by
  unfold Obligations.CallAndJump
  intro s disp rd rs1 src hq hc
  refine ⟨?call, fun ha => ?jump, fun ha het => ?misaligned⟩
  case call =>
    rw [← callTarget_eq]
    exact links_of_quiet hq hc .link 15 (callTarget s.pc disp)
  case jump =>
    rw [exec_jmpl_quiet hq, aligned_true ha]
    exact links_of_quiet hq hc .rdWrite rd (s.address rs1 src)
  case misaligned =>
    rw [exec_jmpl_quiet hq, aligned_false ha]
    exact traps_of_quiet hq het .memAddressNotAligned

/-! ### RETT -/

/-- The state in which RETT transfers: ET, CWP and S as before the trap, and the space of the next fetch open where no JMPL came
directly before (R374, R585). -/
def State.restored (s : State) (w : BitVec 5) : State :=
  { s with psr := { s.psr with et := true, s := s.psr.ps, cwp := w }, fetchOpen := !s.prev.jmpl }

section Returns
variable {s : State} (hq : s.quiet)
include hq

theorem State.restored_quiet (w : BitVec 5) :
    (((s.putEt true).putCwp w).putS s.psr.ps).setFetchOpen (!s.prev.jmpl) = s.restored w := by
  have hflight : s.flight = [] := hq
  simp [State.putEt, State.putCwp, State.putS, State.settled, State.setFetchOpen, State.restored, hflight]

/-- RETT as the list of its cases, in the order of its tests, w being the window above (R374). -/
theorem exec_rett_quiet (rs1 : Reg) (src : Operand2) {w : BitVec 5} (hw : windowAbove s.cfg s.psr.cwp = w) :
    exec (.rett rs1 src) s =
      .next (if s.psr.et then s.takeTrap .illegalInstruction
        else if !s.psr.s then s.failReturn .privilegedInstruction
        else if s.wim.getLsbD w.toNat then s.failReturn .windowUnderflow
        else if !aligned (s.address rs1 src) 4 then s.failReturn .memAddressNotAligned
        else (s.restored w).transfer (s.address rs1 src) false) := by
  rw [← hw, ← State.restored_quiet hq, ← State.seeEt_quiet hq .returnEnable, ← State.seeS_quiet hq .privilege,
    ← State.seePs_quiet hq .returnMode, ← State.seeWim_quiet hq .windowMask, ← State.seeCwp_quiet hq .window,
    ← State.ea_quiet hq]
  rfl

end Returns

/-- A RETT that fails: error_mode with tt, or nothing where reset is requested (R530, R570). -/
theorem failReturn_fails (s : State) (t : Trap) :
    ∃ u, Host.Outcome.next (s.failReturn t) = (.next u : Out) ∧
      if s.resetAhead = true then u = s else ErrorEntered { s with tt := trapType t } u := by
  refine ⟨_, rfl, ?_⟩
  unfold State.failReturn
  cases s.resetAhead
  · exact errorEntered (s.setTt (trapType t))
  · rfl

/-- A RETT that completes: the transfer from the restored state changes the program counters and retires the instruction. -/
theorem restored_transfers {s : State} (hc : s.prev.conditional = false) (w : BitVec 5) (a : Word) :
    ∃ t, Host.Outcome.next ((s.restored w).transfer a false) = (.next t : Out) ∧ t.pc = s.npc ∧ t.npc = a ∧
      t.psr = { s.psr with et := true, s := s.psr.ps, cwp := w } ∧ RegsKept s t ∧ MemKept s t ∧
      t = { s with pc := t.pc, npc := t.npc, psr := t.psr, prev := s.current, stale := s.unflushed,
                   fetchOpen := !s.prev.jmpl } := by
  have hc' : (s.restored w).prev.conditional = false := hc
  rw [State.transfer_uncoupled hc']
  exact ⟨_, rfl, rfl, rfl, rfl, fun _ _ => rfl, fun _ => rfl, rfl⟩

/-- Settles O37: the tests in their order, each with its outcome. -/
theorem returnFromTrap : Obligations.ReturnFromTrap := by
  unfold Obligations.ReturnFromTrap
  intro s rs1 src hq w a o Fails
  have ho : o = _ := exec_rett_quiet hq rs1 src (w := w) rfl
  have hfails (t : Trap) (h : o = .next (s.failReturn t)) : Fails (trapType t) := by
    have hf := failReturn_fails s t
    rwa [← h] at hf
  split_ifs with het hs hw ha
  · rw [ho, if_pos het]
    exact traps_of_quiet hq het .illegalInstruction
  · exact hfails .privilegedInstruction (by rw [ho, if_neg het, hs]; rfl)
  · have hsupervisor := Bool.eq_true_of_not_eq_false hs
    exact hfails .windowUnderflow (by rw [ho, if_neg het, hsupervisor, hw]; rfl)
  · have hsupervisor := Bool.eq_true_of_not_eq_false hs
    exact hfails .memAddressNotAligned (by rw [ho, if_neg het, hsupervisor, if_neg hw, aligned_false ha]; rfl)
  · intro hc
    have hsupervisor := Bool.eq_true_of_not_eq_false hs
    rw [ho, if_neg het, hsupervisor, if_neg hw, aligned_true (not_not.1 ha)]
    exact restored_transfers hc w a

/-! ### Ticc -/

/-- The trap type of a Ticc, as arithmetic (R376). -/
theorem trapType_trapInstruction (a : Word) :
    trapType (.trapInstruction (a.extractLsb' 0 7)) = BitVec.ofNat 8 (128 + a.toNat % 128) := by
  show 1#1 ++ a.extractLsb' 0 7 = _
  apply BitVec.eq_of_toNat_eq
  rw [toNat_append_add, toNat_extract, BitVec.toNat_ofNat, BitVec.toNat_ofNat]
  omega

/-- Ticc on a condition. -/
theorem trapOn_traps {s : State} (hq : s.quiet) (test : Icc → Bool) {c : Bool} (h : test s.psr.icc = c) (rs1 : Reg)
    (src : Operand2) :
    if c = true then
      s.psr.et = true →
        Traps s (.next (s.trapOn test rs1 src)) (BitVec.ofNat 8 (128 + (s.address rs1 src).toNat % 128))
    else Passes s (.next (s.trapOn test rs1 src)) := by
  rw [← trapType_trapInstruction]
  exact trapOn_quiet hq test _ (by rw [h]) rs1 src

/-- Settles O38: each instruction is the trap on its test of icc, in the terms of the statement. -/
theorem trapOnCondition : Obligations.TrapOnCondition := by
  unfold Obligations.TrapOnCondition
  intro s rs1 src hq i
  have traps (test : Icc → Bool) {c : Bool} (h : test s.psr.icc = c) := trapOn_traps hq test h rs1 src
  refine ⟨?tn, ?te, ?tle, ?tl, ?tleu, ?tcs, ?tneg, ?tvs, ?ta, ?tne, ?tg, ?tge, ?tgu, ?tcc, ?tpos, ?tvc⟩
  case tn => exact traps iccNever (c := false) rfl
  case te => exact traps iccEqual rfl
  case tle => exact traps iccLessEqual (iccLessEqual_eq i)
  case tl => exact traps iccLess (iccLess_eq i)
  case tleu => exact traps iccLessEqualUnsigned rfl
  case tcs => exact traps iccCarrySet rfl
  case tneg => exact traps iccNegative rfl
  case tvs => exact traps iccOverflowSet rfl
  case ta => exact traps iccAlways (c := true) rfl
  case tne => exact traps iccNotEqual rfl
  case tg => exact traps iccGreater (iccGreater_eq i)
  case tge => exact traps iccGreaterEqual (iccGreaterEqual_eq i)
  case tgu => exact traps iccGreaterUnsigned (iccGreaterUnsigned_eq i)
  case tcc => exact traps iccCarryClear rfl
  case tpos => exact traps iccPositive rfl
  case tvc => exact traps iccOverflowClear rfl

end Sys2Proof.Machine

/-! ## State registers (O40, O42)

In a state without delayed writes in flight a read of a state register is a register write of the value it holds. -/

namespace Sys2Proof.Machine

/-! ### Reading the state registers -/

theorem State.seePsr_quiet {s : State} (hq : s.quiet) : s.seePsr = s.psr := by
  simp only [State.seePsr, State.seeIcc_quiet hq, State.seeEc_quiet hq, State.seeEf_quiet hq, State.seePil_quiet hq,
    State.seeS_quiet hq, State.seePs_quiet hq, State.seeEt_quiet hq, State.seeCwp_quiet hq]

/-- The four condition codes behind other bits, one at a time (R45). -/
theorem append_iccBits {n : Nat} (x : BitVec n) (i : Icc) :
    x ++ iccBits i = x ++ BitVec.ofBool i.n ++ BitVec.ofBool i.z ++ BitVec.ofBool i.v ++ BitVec.ofBool i.c := by
  apply BitVec.eq_of_toNat_eq
  simp only [iccBits, BitVec.toNat_append, Nat.shiftLeft_or_distrib, ← Nat.shiftLeft_add, Nat.or_assoc]

/-- A privileged instruction that writes r[rd] and completes. -/
theorem writesReg_privileged {s : State} (hq : s.quiet) (hs : s.psr.s = true) (u : Use) (rd : Reg) (v : State → Word) :
    WritesReg s (.next (s.privileged fun s => (s.setReg u rd (v s)).advance)) rd (v s) := by
  rw [State.privileged_supervisor hq hs]
  exact writesReg_of_quiet hq u rd (v s)

/-- Settles O40: each of the four reads is a register write of the register's layout. -/
theorem readStateRegisters : Obligations.ReadStateRegisters := by
  unfold Obligations.ReadStateRegisters
  intro s rd hq
  have hy : WritesReg s (exec (.rdy rd) s) rd (s.see .yRead .y) := writesReg_of_quiet hq _ _ _
  rw [State.seeY_quiet hq] at hy
  refine ⟨hy, fun hs => ?_⟩
  have hpsr : WritesReg s (exec (.rdpsr rd) s) rd (psrWord s.cfg s.seePsr) :=
    writesReg_privileged hq hs _ rd fun s => psrWord s.cfg s.seePsr
  have hwim : WritesReg s (exec (.rdwim rd) s) rd (s.see (.stateRead 8) .wim) :=
    writesReg_privileged hq hs _ rd fun s => s.see (.stateRead 8) .wim
  have htbr : WritesReg s (exec (.rdtbr rd) s) rd (tbrWord (s.seeTba (.stateRead 9)) s.tt) :=
    writesReg_privileged hq hs _ rd fun s => tbrWord (s.seeTba (.stateRead 9)) s.tt
  rw [State.seePsr_quiet hq, psrWord, append_iccBits] at hpsr
  rw [State.seeWim_quiet hq] at hwim
  rw [State.seeTba_quiet hq] at htbr
  exact ⟨hpsr, hwim, htbr⟩

/-! ### UNIMP, IFLUSH and what a fetch delivers -/

/-- IFLUSH by the caches that are present (R420). -/
theorem exec_iflush (rs1 : Reg) (src : Operand2) (s : State) :
    exec (.iflush rs1 src) s = .next (if s.cfg.iuCachePresent then s.advance.flushWord (s.ea rs1 src)
      else if s.cfg.extCachePresent then s.takeTrap .illegalInstruction else s.advance) := rfl

theorem getD_mem_cons {α : Type} (d : α) (l : List α) (n : Nat) : (d :: l).getD n d ∈ d :: l := by
  rcases Nat.lt_or_ge n (d :: l).length with hn | hn
  · rw [List.getD_eq_getElem _ _ hn]
    exact List.getElem_mem hn
  · rw [List.getD_eq_default _ _ hn]
    exact List.mem_cons_self

/-- A fetch delivers the word in memory, or an old word noted at its key (R126). -/
theorem State.fetchKey_cases (s : State) (k : Nat) :
    s.fetchKey k = Memory.word s.mem k ∨ ∃ e ∈ s.stale, e.key = k ∧ s.fetchKey k = e.old := by
  have hmem : s.fetchKey k ∈ Memory.word s.mem k :: (s.stale.filter (fun e => e.key == k)).map (fun e => e.old) := by
    unfold State.fetchKey
    split
    · exact List.mem_cons_self
    · exact getD_mem_cons _ _ _
  rcases List.mem_cons.1 hmem with hnew | hold
  · exact .inl hnew
  · obtain ⟨e, he, hold⟩ := List.mem_map.1 hold
    obtain ⟨hstale, hkey⟩ := List.mem_filter.1 he
    exact .inr ⟨e, hstale, of_decide_eq_true hkey, hold.symm⟩

/-- Settles O42: UNIMP is a trap, IFLUSH one of its three cases (`exec_iflush`), a fetch one of `State.fetchKey_cases`. -/
theorem unimpAndIflush : Obligations.UnimpAndIflush := by
  unfold Obligations.UnimpAndIflush
  refine ⟨fun s rs1 src c hq => ⟨fun het => traps_of_quiet hq het _, fun hc => ?_, fun hc he => ?_, fun hc he het => ?_⟩,
    State.fetchKey_cases⟩ <;> rw [exec_iflush]
  · rw [if_pos hc, State.ea_quiet hq]
    exact ⟨_, rfl, ⟨rfl, rfl⟩, fun _ _ => rfl, fun _ => rfl, rfl⟩
  · rw [if_neg (by simp [hc]), if_neg (by simp [he])]
    exact passes_advance s
  · rw [if_neg (by simp [hc]), if_pos he]
    exact traps_of_quiet hq het _

end Sys2Proof.Machine

/-! ## Delayed writes (O41)

A delayed write is the field's new value and the note of its old one; the instructions are chains of delayed writes of different
fields, and the advance. -/

namespace Sys2Proof.Machine

/-! ### The value of a field -/

/-- How many bits a field has (R45, R56, R57). -/
def Delayed.width : Delayed → Nat
  | .icc | .pil => 4
  | .ec | .ef | .s | .ps | .et => 1
  | .cwp => 5
  | .tba => 20
  | .wim | .y => 32

theorem iccBits_iccOfBits (b : BitVec 4) : iccBits (iccOfBits b) = b := by
  revert b
  decide

theorem wordOfBool_lowBit (b : BitVec 1) : wordOfBool ((b.setWidth 32).getLsbD 0) = b.setWidth 32 := by
  revert b
  decide

theorem setWidth_setWidth_word {n : Nat} (x : BitVec n) (h : n ≤ 32) : (x.setWidth 32).setWidth n = x :=
  (BitVec.setWidth_setWidth_of_le x h).trans (BitVec.setWidth_eq x)

/-- A value that fits a field is its value once written. -/
theorem State.live_setLive (s : State) (f : Delayed) (x : BitVec f.width) :
    (s.setLive f (x.setWidth 32)).live f = x.setWidth 32 := by
  cases f
  case icc => exact congrArg (BitVec.setWidth 32) ((iccBits_iccOfBits _).trans (setWidth_setWidth_word x (by decide)))
  case ec | ef | s | ps | et => exact wordOfBool_lowBit x
  case wim | y => rfl
  case pil | cwp | tba => exact congrArg (BitVec.setWidth 32) (setWidth_setWidth_word x (by decide))

/-- Writing one field leaves the others. -/
theorem State.live_setLive_of_ne (s : State) {f g : Delayed} (h : g ≠ f) (v : Word) : (s.setLive f v).live g = s.live g := by
  cases f <;> cases g <;> simp [State.setLive, State.live] at h ⊢

/-- Writing the value that a field has leaves the state. -/
theorem State.setLive_live (s : State) (f : Delayed) : s.setLive f (s.live f) = s := by
  cases f <;> simp [State.setLive, State.live, wordOfBool_getElem, iccOfBits_iccBits]

/-! ### One delayed write -/

/-- A delayed write is a write of the field, and the note of its old value. -/
theorem State.putDelayed_eq (s : State) (f : Delayed) (v : Word) :
    s.putDelayed f v = { s.setLive f v with flight := (s.putDelayed f v).flight } := by
  by_cases h : s.live f = v
  · have hput : s.putDelayed f v = s := if_pos h
    rw [hput, ← h, State.setLive_live]
  · have hput : s.putDelayed f v = { s.setLive f v with flight := ⟨f, s.live f, 3⟩ :: s.flight } := if_neg h
    rw [hput]

section Fields
variable (s : State) (f : Delayed) (v : Word)
@[simp] theorem State.putDelayed_psr : (s.putDelayed f v).psr = (s.setLive f v).psr := by rw [s.putDelayed_eq]
@[simp] theorem State.putDelayed_wim : (s.putDelayed f v).wim = (s.setLive f v).wim := by rw [s.putDelayed_eq]
@[simp] theorem State.putDelayed_tba : (s.putDelayed f v).tba = (s.setLive f v).tba := by rw [s.putDelayed_eq]
@[simp] theorem State.putDelayed_y : (s.putDelayed f v).y = (s.setLive f v).y := by rw [s.putDelayed_eq]

/-- The value of each field after a delayed write. -/
theorem State.putDelayed_live (g : Delayed) : (s.putDelayed f v).live g = (s.setLive f v).live g := by
  rw [s.putDelayed_eq]
  rfl
end Fields

theorem State.putDelayed_live_of_ne (s : State) {f g : Delayed} (h : g ≠ f) (v : Word) :
    (s.putDelayed f v).live g = s.live g := by
  rw [State.putDelayed_live, s.live_setLive_of_ne h]

/-- What delayed writes can change: the state registers, and the notes of old values. -/
def OnlyDelayed (s t : State) : Prop :=
  t = { s with psr := t.psr, wim := t.wim, tba := t.tba, y := t.y, flight := t.flight }

theorem OnlyDelayed.trans {s t u : State} (h1 : OnlyDelayed s t) (h2 : OnlyDelayed t u) : OnlyDelayed s u := by
  unfold OnlyDelayed at *
  rw [h2, h1]

theorem State.putDelayed_only (s : State) (f : Delayed) (v : Word) : OnlyDelayed s (s.putDelayed f v) := by
  unfold OnlyDelayed
  rw [State.putDelayed_eq]
  cases f <;> rfl

/-! ### Chains of delayed writes -/

theorem DelayedFrom.of_quiet {s : State} (hq : s.quiet) : DelayedFrom s s := by
  have hflight : s.flight = [] := hq
  simp [DelayedFrom, hflight]

/-- One more field written. -/
theorem DelayedFrom.putDelayed {s t : State} (h : DelayedFrom s t) {f : Delayed} (hf : t.live f = s.live f) {v : Word}
    (hv : (t.setLive f v).live f = v) : DelayedFrom s (t.putDelayed f v) := by
  obtain ⟨hnoted, hall⟩ := h
  have hlive : (t.putDelayed f v).live f = v := by rw [State.putDelayed_live, hv]
  by_cases hsame : t.live f = v
  · have hput : t.putDelayed f v = t := if_pos hsame
    rw [hput]
    exact ⟨hnoted, hall⟩
  have hflight : (t.putDelayed f v).flight = ⟨f, s.live f, 3⟩ :: t.flight := by
    rw [State.putDelayed_flight, if_neg hsame, hf]
  refine ⟨fun g => ?_, ?_⟩
  · rw [hflight, List.mem_cons]
    by_cases hg : g = f
    · subst hg
      rw [hlive, ← hf]
      simp [Ne.symm hsame]
    · rw [State.putDelayed_live_of_ne t hg, ← hnoted g]
      simp [hg]
  · rw [hflight]
    exact List.forall_mem_cons.2 ⟨rfl, hall⟩

/-- The same with a value of the field's width. -/
theorem DelayedFrom.putField {s t : State} (h : DelayedFrom s t) (f : Delayed) (hf : t.live f = s.live f)
    (x : BitVec f.width) : DelayedFrom s (t.putDelayed f (x.setWidth 32)) :=
  h.putDelayed hf (t.live_setLive f x)

/-- A use after delayed writes sees the new value or the old one. -/
theorem DelayedFrom.see {s t : State} (h : DelayedFrom s t) (u : Use) (f : Delayed) :
    t.see u f = t.live f ∨ t.see u f = s.live f := by
  rcases t.see_mem u f with hnew | hold
  · exact .inl hnew
  · obtain ⟨p, hp, hold⟩ := List.mem_map.1 hold
    obtain ⟨hflight, hfield⟩ := List.mem_filter.1 hp
    have hp : p = ⟨p.field, s.live p.field, 3⟩ := h.2 p hflight
    have hfield : p.field = f := by simpa using hfield
    rw [← hold, hp, hfield]
    exact .inr rfl

/-! ### The writing instructions -/

/-- An instruction that comes to delayed writes and the advance. -/
theorem DelayedFrom.advance {s m : State} (hd : DelayedFrom s m) (ho : OnlyDelayed s m) :
    Advanced s m.advance ∧ DelayedFrom s m.advance ∧ RegsKept s m.advance ∧ MemKept s m.advance ∧
      Completed { s with psr := m.psr, wim := m.wim, tba := m.tba, y := m.y, flight := m.flight } m.advance := by
  unfold OnlyDelayed at ho
  refine ⟨⟨?_, ?_⟩, hd, fun w n => ?_, fun k => ?_, ?_⟩
  · rw [ho]; rfl
  · rw [ho]; rfl
  · apply State.regIn_congr <;> rw [ho] <;> rfl
  · rw [ho]; rfl
  · rw [← ho]; rfl

section Writes
variable {s : State} (hq : s.quiet)
include hq

/-- A delayed write of one field. -/
theorem DelayedFrom.of_putDelayed {f : Delayed} {v : Word} (hv : (s.setLive f v).live f = v) :
    DelayedFrom s (s.putDelayed f v) :=
  (DelayedFrom.of_quiet hq).putDelayed rfl hv

/-- The fields of the PSR are different fields, written each at its width. -/
theorem DelayedFrom.of_putPsrDelayed (v : Word) : DelayedFrom s (s.putPsrDelayed v) := by
  have h0 := DelayedFrom.of_quiet hq
  have h1 := h0.putField .icc rfl (v.extractLsb' 20 4)
  have h2 := h1.putField .ec (by simp [State.putDelayed_live_of_ne]) (v.extractLsb' 13 1)
  have h3 := h2.putField .ef (by simp [State.putDelayed_live_of_ne]) (v.extractLsb' 12 1)
  have h4 := h3.putField .pil (by simp [State.putDelayed_live_of_ne]) (v.extractLsb' 8 4)
  have h5 := h4.putField .s (by simp [State.putDelayed_live_of_ne]) (v.extractLsb' 7 1)
  have h6 := h5.putField .ps (by simp [State.putDelayed_live_of_ne]) (v.extractLsb' 6 1)
  have h7 := h6.putField .et (by simp [State.putDelayed_live_of_ne]) (v.extractLsb' 5 1)
  exact h7.putField .cwp (by simp [State.putDelayed_live_of_ne]) (v.extractLsb' 0 5)

theorem State.writeValue_quiet (rs1 : Reg) (src : Operand2) : s.writeValue rs1 src = s.r rs1 ^^^ s.operand src := by
  rw [State.writeValue, State.reg_quiet hq, State.op2val_quiet hq]

end Writes

theorem State.putPsrDelayed_only (s : State) (v : Word) : OnlyDelayed s (s.putPsrDelayed v) :=
  (State.putDelayed_only _ .icc _).trans <| (State.putDelayed_only _ .ec _).trans <|
    (State.putDelayed_only _ .ef _).trans <| (State.putDelayed_only _ .pil _).trans <|
    (State.putDelayed_only _ .s _).trans <| (State.putDelayed_only _ .ps _).trans <|
    (State.putDelayed_only _ .et _).trans <| State.putDelayed_only _ .cwp _

/-- The fields of the PSR at their places in a word (R45). -/
def psrOfWord (v : Word) : Psr where
  icc := ⟨v.getLsbD 23, v.getLsbD 22, v.getLsbD 21, v.getLsbD 20⟩
  ec := v.getLsbD 13
  ef := v.getLsbD 12
  pil := v.extractLsb' 8 4
  s := v.getLsbD 7
  ps := v.getLsbD 6
  et := v.getLsbD 5
  cwp := v.extractLsb' 0 5

/-- The PSR after WRPSR (R413). -/
theorem State.putPsrDelayed_psr (s : State) (v : Word) : (s.putPsrDelayed v).psr = psrOfWord v := by
  simp [State.putPsrDelayed, State.setLive, iccOfBits, psrOfWord]

theorem State.putPsrDelayed_others (s : State) (v : Word) :
    (s.putPsrDelayed v).wim = s.wim ∧ (s.putPsrDelayed v).tba = s.tba ∧ (s.putPsrDelayed v).y = s.y := by
  simp [State.putPsrDelayed, State.setLive]

/-- The mask written to the WIM has the bits below NWINDOWS (R56). -/
theorem getLsbD_and_wimMask (cfg : Params) (v : Word) (i : Nat) :
    (v &&& wimMask cfg).getLsbD i = (v.getLsbD i && decide (i < nwindows cfg)) := by
  have hn : nwindows cfg ≤ 32 := by unfold nwindows; omega
  rw [BitVec.getLsbD_and, wimMask, BitVec.getLsbD_ofNat, Nat.testBit_two_pow_sub_one]
  by_cases hi : i < nwindows cfg
  · simp [hi, Nat.lt_of_lt_of_le hi hn]
  · simp [hi]

end Sys2Proof.Machine

/-! ## Old values in flight over a step (O41)

What an instruction leaves in flight was in flight before it, or is an old value it has just noted. From the accesses of memory
up, as the list of each operation's cases has it. -/

namespace Sys2Proof.Machine

/-- Every old value in flight in a state was in flight in another, or has just been noted, with three instructions left. -/
def FlightFrom (u t : State) : Prop := ∀ p ∈ t.flight, p.left = 3 ∨ p ∈ u.flight

theorem FlightFrom.refl (s : State) : FlightFrom s s := fun _ hp => .inr hp

theorem State.memoryRead_flight (s : State) (acc : Access) (asi : Byte) (a : Word) (mask : BitVec 4) :
    (s.memoryRead acc asi a mask).1.flight = s.flight := by
  rw [State.memoryRead_only]

section Chain
variable {u s t : State} (h : FlightFrom u s)
include h

/-- An operation that writes no delayed-written field. -/
theorem FlightFrom.of_eq (ht : t.flight = s.flight) : FlightFrom u t := by
  unfold FlightFrom
  rwa [ht]

/-- A field settled. -/
theorem FlightFrom.settled {f : Delayed} (ht : t.flight = s.settled f) : FlightFrom u t := by
  intro p hp
  rw [ht] at hp
  exact h p (s.settled_subset f p hp)

/-- A delayed write. -/
theorem FlightFrom.putDelayed (f : Delayed) (v : Word) : FlightFrom u (s.putDelayed f v) := by
  intro p hp
  rw [State.putDelayed_flight] at hp
  split at hp
  · exact h p hp
  · rcases List.mem_cons.1 hp with rfl | hp
    · exact .inl rfl
    · exact h p hp

theorem FlightFrom.advance : FlightFrom u s.advance := h.of_eq rfl

theorem FlightFrom.setReg (use : Use) (n : Reg) (v : Word) : FlightFrom u (s.setReg use n v) := h.of_eq (by simp)

theorem FlightFrom.setFsr (r : Fsr) : FlightFrom u (s.setFsr r) := h.of_eq rfl

theorem FlightFrom.setFpuMode (m : FpuMode) : FlightFrom u (s.setFpuMode m) := h.of_eq rfl

theorem FlightFrom.setCp (c : CpState) : FlightFrom u (s.setCp c) := h.of_eq rfl

theorem FlightFrom.setCreg (n : Reg) (v : Word) : FlightFrom u (s.setCreg n v) := h.of_eq rfl

theorem FlightFrom.transfer (target : Word) (annul : Bool) : FlightFrom u (s.transfer target annul) := by
  unfold State.transfer
  cases annul <;> cases s.prev.conditional <;> exact h.of_eq rfl

omit h in
theorem FlightFrom.trapEntry (t : Trap) : FlightFrom u (s.trapEntry t) := by
  simp [FlightFrom]

theorem FlightFrom.takeTrap (t : Trap) : FlightFrom u (s.takeTrap t) := by
  rcases s.takeTrap_cases t with ⟨-, e⟩ | ⟨-, -, e⟩ | ⟨-, -, e⟩ <;> rw [e]
  · exact h
  · exact FlightFrom.trapEntry t
  · exact h.of_eq rfl

/-! ### Integer loads and stores -/

theorem FlightFrom.readWord {asi : Byte} {a : Word} {r : Option Word} (hr : s.readWord asi a = (t, r)) : FlightFrom u t := by
  have ht := s.memoryRead_flight .read asi a 0b1111#4
  rw [show s.memoryRead .read asi a 0b1111#4 = (t, r) from hr] at ht
  exact h.of_eq ht

theorem FlightFrom.readByte (asi : Byte) (a : Word) : FlightFrom u (s.readByte asi a).1 :=
  h.of_eq (s.memoryRead_flight .read asi a (byteMask a))

theorem FlightFrom.readHalf (asi : Byte) (a : Word) : FlightFrom u (s.readHalf asi a).1 :=
  h.of_eq (s.memoryRead_flight .read asi a (halfMask a))

theorem FlightFrom.memoryWrite {asi : Byte} {a : Word} {mask : BitVec 4} {data : Word}
    (hw : s.memoryWrite asi a mask data = some t) : FlightFrom u t :=
  h.of_eq (by rw [State.memoryWrite_only hw])

theorem FlightFrom.loadReg (rd : Reg) (isAligned : Bool) {r : State × Option Word} (hr : FlightFrom u r.1) :
    FlightFrom u (s.loadReg rd isAligned r) := by
  rcases s.loadReg_cases rd isAligned r with ⟨-, e⟩ | ⟨-, -, e⟩ | ⟨-, v, -, e⟩ <;> rw [e]
  · exact h.takeTrap _
  · exact hr.takeTrap _
  · exact (hr.setReg _ _ _).advance

theorem FlightFrom.loadDouble (asi : Byte) (a : Word) (rd : Reg) : FlightFrom u (s.loadDouble asi a rd) := by
  rcases s.loadDouble_cases asi a rd with
    ⟨-, e⟩ | ⟨-, s1, h1, e⟩ | ⟨-, s1, w0, h1, ⟨s2, h2, e⟩ | ⟨s2, w1, h2, e⟩⟩ <;> rw [e]
  · exact h.takeTrap _
  · exact (h.readWord h1).takeTrap _
  · exact (((h.readWord h1).setReg _ _ _).readWord h2).takeTrap _
  · exact ((((h.readWord h1).setReg _ _ _).readWord h2).setReg _ _ _).advance

theorem FlightFrom.store (isAligned : Bool) {r : Option State} (hr : ∀ t, r = some t → FlightFrom u t) :
    FlightFrom u (s.store isAligned r) := by
  rcases s.store_cases isAligned r with ⟨-, e⟩ | ⟨-, -, e⟩ | ⟨-, t, ht, e⟩ <;> rw [e]
  · exact h.takeTrap _
  · exact h.takeTrap _
  · exact (hr t ht).advance

/-- A store of one access: a byte, a halfword or a word. -/
theorem FlightFrom.storeAccess (isAligned : Bool) (asi : Byte) (a : Word) (mask : BitVec 4) (data : Word) :
    FlightFrom u (s.store isAligned (s.memoryWrite asi a mask data)) :=
  h.store isAligned fun _ ht => h.memoryWrite ht

/-- A store of two words, with what one unit does between them and after them. -/
theorem FlightFrom.storeTwo (asi : Byte) (a v0 v1 : Word) {between done : State → State}
    (hb : ∀ t, (between t).flight = t.flight) (hd : ∀ t, (done t).flight = t.flight) :
    FlightFrom u (if aligned a 8 then
      match s.writeWord asi a v0 with
      | none => s.takeTrap .dataAccessException
      | some s1 =>
        match (between s1).writeWord asi (a + 4) v1 with
        | none => (between s1).takeTrap .dataAccessException
        | some s2 => (done s2).advance
    else s.takeTrap .memAddressNotAligned) := by
  split
  · split
    · exact h.takeTrap _
    · next s1 h1 =>
      have hs1 := (h.memoryWrite h1).of_eq (hb s1)
      split
      · exact hs1.takeTrap _
      · next s2 h2 => exact ((hs1.memoryWrite h2).of_eq (hd s2)).advance
  · exact h.takeTrap _

theorem FlightFrom.storePair (asi : Byte) (a v0 v1 : Word) : FlightFrom u (s.storePair asi a v0 v1) :=
  h.storeTwo asi a v0 v1 (between := id) (done := id) (fun _ => rfl) fun _ => rfl

theorem FlightFrom.loadStoreByte (asi : Byte) (a : Word) (rd : Reg) : FlightFrom u (s.loadStoreByte asi a rd) := by
  have hr := h.readByte asi a
  rcases s.loadStoreByte_cases asi a rd with
    ⟨s1, h1, e⟩ | ⟨s1, b, h1, s2, rfl, ⟨-, e⟩ | ⟨s3, h3, e⟩⟩ <;> rw [e] <;> rw [h1] at hr
  · exact hr.takeTrap _
  · exact (hr.setReg _ _ _).takeTrap _
  · exact ((hr.setReg _ _ _).memoryWrite h3).advance

theorem FlightFrom.swapWord (asi : Byte) (a : Word) (rd : Reg) : FlightFrom u (s.swapWord asi a rd) := by
  rcases s.swapWord_cases asi a rd with
    ⟨-, e⟩ | ⟨-, s1, h1, e⟩ | ⟨-, s1, w, h1, s2, rfl, ⟨-, e⟩ | ⟨s3, h3, e⟩⟩ <;> rw [e]
  · exact h.takeTrap _
  · exact (h.readWord h1).takeTrap _
  · exact ((h.readWord h1).setReg _ _ _).takeTrap _
  · exact (((h.readWord h1).setReg _ _ _).memoryWrite h3).advance

/-! ### Registers, condition codes, windows, control transfers -/

theorem FlightFrom.privileged {body : State → State} (hb : FlightFrom u (body s)) : FlightFrom u (s.privileged body) := by
  rcases s.privileged_cases body with ⟨-, e⟩ | ⟨-, e⟩ <;> rw [e]
  · exact hb
  · exact h.takeTrap _

theorem FlightFrom.ite_takeTrap (c : Prop) [Decidable c] (t : Trap) {s' : State} (hs' : FlightFrom u s') :
    FlightFrom u (if c then s.takeTrap t else s') := by
  split
  · exact h.takeTrap t
  · exact hs'

theorem FlightFrom.writeFlagged (rd : Reg) (v : Word) (flags : Icc) : FlightFrom u (s.writeFlagged rd v flags) :=
  (h.setReg .rdWrite rd v).settled (f := .icc) rfl

theorem FlightFrom.changeWindow (w : BitVec 5) (t : Trap) (rd : Reg) (v : Word) :
    FlightFrom u (s.changeWindow w t rd v) := by
  rcases s.changeWindow_cases w t rd v with ⟨-, e⟩ | ⟨-, e⟩ <;> rw [e]
  · exact h.takeTrap t
  · exact h.settled (f := .cwp) (by simp)

theorem FlightFrom.trapOn (test : Icc → Bool) (rs1 : Reg) (src : Operand2) : FlightFrom u (s.trapOn test rs1 src) := by
  rcases s.trapOn_cases test rs1 src with ⟨-, e⟩ | ⟨-, e⟩ <;> rw [e]
  · exact h.takeTrap _
  · exact h.advance

theorem FlightFrom.branch (taken annul : Bool) (disp : BitVec 22) : FlightFrom u (s.branch taken annul disp) := by
  rcases s.branch_cases taken annul disp with ⟨-, e⟩ | ⟨-, e⟩ <;> rw [e]
  · exact h.transfer _ _
  · exact h.transfer _ _

/-- JMPL by its alignment. -/
theorem FlightFrom.jump (rd : Reg) (a : Word) :
    FlightFrom u
      (if aligned a 4 then (s.setReg .rdWrite rd s.pc).transfer a false else s.takeTrap .memAddressNotAligned) := by
  split
  · exact (h.setReg _ _ _).transfer _ _
  · exact h.takeTrap _

theorem FlightFrom.failReturn (t : Trap) : FlightFrom u (s.failReturn t) := by
  unfold State.failReturn
  split
  · exact h
  · exact h.of_eq rfl

theorem FlightFrom.rett (rs1 : Reg) (src : Operand2) : ∃ t, execRett rs1 src s = .next t ∧ FlightFrom u t := by
  refine ⟨_, rfl, h.ite_takeTrap _ _ ?_⟩
  split
  · exact h.failReturn _
  split
  · exact h.failReturn _
  split
  · exact h.failReturn _
  · have het : FlightFrom u (s.putEt true) := h.settled rfl
    have hcwp : FlightFrom u ((s.putEt true).putCwp (windowAbove s.cfg (s.seeCwp .window))) := het.settled rfl
    exact (hcwp.settled (t := State.setFetchOpen _ _) (f := .s) rfl).transfer _ _

/-! ### State registers -/

theorem FlightFrom.putPsrDelayed (v : Word) : FlightFrom u (s.putPsrDelayed v) :=
  (((((((h.putDelayed _ _).putDelayed _ _).putDelayed _ _).putDelayed _ _).putDelayed _ _).putDelayed _ _).putDelayed _
    _).putDelayed _ _

theorem FlightFrom.iflush (rs1 : Reg) (src : Operand2) : ∃ t, exec (.iflush rs1 src) s = .next t ∧ FlightFrom u t := by
  refine ⟨_, exec_iflush rs1 src s, ?_⟩
  split
  · exact h.of_eq rfl
  · exact h.ite_takeTrap _ _ h.advance

/-! ### The floating-point unit -/

theorem FlightFrom.fpu (ht : s.onlyFpuChanged t) : FlightFrom u t := by
  unfold State.onlyFpuChanged at ht
  exact h.of_eq (by rw [ht])

theorem FlightFrom.fpExceptionTrap : FlightFrom u s.fpExceptionTrap :=
  ((h.setFsr _).setFpuMode .exception).takeTrap _

theorem FlightFrom.fpGuard {body : State → State} (hb : FlightFrom u (body s)) : FlightFrom u (s.fpGuard body) := by
  rcases s.fpGuard_cases body with ⟨-, e⟩ | ⟨-, -, e⟩ | ⟨-, -, e⟩ <;> rw [e]
  · exact h.takeTrap _
  · exact h.fpExceptionTrap
  · exact hb

theorem FlightFrom.fpHold (wait : List FqEntry → Bool) {body : State → State}
    (hb : ∀ t, FlightFrom u t → FlightFrom u (body t)) : FlightFrom u (s.fpHold wait body) := by
  have ht := h.fpu (s.holdWhile_only wait)
  rcases s.fpHold_cases wait body with ⟨-, e⟩ | ⟨-, e⟩ <;> rw [e]
  · exact ht.fpExceptionTrap
  · exact hb _ ht

theorem FlightFrom.fpop (fn : FpFn) (rd rs1 rs2 : Reg) (word : Word) : FlightFrom u (s.fpop fn rd rs1 rs2 word) := by
  rcases s.fpop_cases fn rd rs1 rs2 word with
    ⟨-, e⟩ | ⟨-, -, e⟩ | ⟨-, -, e⟩ | ⟨-, -, -, s1, rfl, ⟨-, e⟩ | ⟨-, e⟩⟩ <;> rw [e]
  · exact h.takeTrap _
  · exact h.fpExceptionTrap
  · exact h.of_eq rfl
  · exact (h.fpu (s.holdWhile_only _)).fpExceptionTrap
  · exact ((h.fpu (s.holdWhile_only _)).fpu (State.accept_only _ _)).advance

theorem FlightFrom.loadDone (mode : FpuMode) : FlightFrom u (s.loadDone mode) := by
  unfold State.loadDone
  split <;> exact h.of_eq rfl

theorem FlightFrom.loadSingleFp (asi : Byte) (a : Word) (rd : Reg) : FlightFrom u (s.loadSingleFp asi a rd) := by
  rcases s.loadSingleFp_cases asi a rd with ⟨-, e⟩ | ⟨-, s1, h1, e⟩ | ⟨-, s1, w, h1, e⟩ <;> rw [e]
  · exact h.takeTrap _
  · exact ((h.readWord h1).fpu (s1.keepOrConstant_only _ _)).takeTrap _
  · exact ((h.readWord h1).fpu (s1.loadFreg_only _ _ _)).loadDone _

theorem FlightFrom.loadDoubleFp (asi : Byte) (a : Word) (rd : Reg) : FlightFrom u (s.loadDoubleFp asi a rd) := by
  unfold State.loadDoubleFp
  split
  · split
    · next s1 h1 =>
      exact ((h.readWord h1).fpu ((s1.keepOrConstant_only _ _).trans (State.keepOrConstant_only _ _ _))).takeTrap _
    · next s1 w0 h1 =>
      split
      · next s2 h2 =>
        have hs2 := (h.readWord h1).readWord h2
        have hs3 : FlightFrom u (if s2.freeBool (.loadKept 2) then s2.setFreg (pairHigh rd) w0
            else s2.keepOrConstant 0 (pairHigh rd)) := by
          split
          · exact hs2.of_eq rfl
          · exact hs2.fpu (s2.keepOrConstant_only _ _)
        exact (hs3.fpu (State.keepOrConstant_only _ _ _)).takeTrap _
      · next s2 w1 h2 =>
        have hs2 := (h.readWord h1).readWord h2
        exact (hs2.fpu ((s2.loadFreg_only _ _ _).trans (State.loadFreg_only _ _ _ _))).loadDone _
  · exact h.takeTrap _

theorem FlightFrom.putLoadedFsr (w : Word) : FlightFrom u (s.putLoadedFsr w) := by
  rcases s.putLoadedFsr_cases w with e | ⟨-, e⟩ <;> rw [e]
  · exact (h.setFsr _).loadDone _
  · exact h.loadDone _

theorem FlightFrom.loadFsr (asi : Byte) (a : Word) : FlightFrom u (s.loadFsr asi a) := by
  rcases s.loadFsr_cases asi a with ⟨-, e⟩ | ⟨-, s1, h1, e⟩ | ⟨-, s1, w, h1, ⟨-, e⟩ | e⟩ <;> rw [e]
  · exact h.takeTrap _
  · exact (h.readWord h1).takeTrap _
  · exact ((h.readWord h1).fpu (s1.holdWhile_only _)).fpExceptionTrap
  · exact ((h.readWord h1).fpu (s1.holdWhile_only _)).putLoadedFsr w

theorem FlightFrom.storeFsr (asi : Byte) (a : Word) : FlightFrom u (s.storeFsr asi a) := by
  rcases s.storeFsr_cases asi a with ⟨-, e⟩ | ⟨-, e⟩ <;> rw [e]
  · exact h.takeTrap _
  · exact h.fpHold _ fun _ ht => ht.storeAccess _ _ _ _ _

omit h in
theorem State.dequeue_flight (s : State) (rest : List FqEntry) : (s.dequeue rest).flight = s.flight := by
  unfold State.dequeue
  split
  · dsimp only
    split <;> rfl
  · rfl

theorem FlightFrom.storeQueue (asi : Byte) (a : Word) : FlightFrom u (s.storeQueue asi a) := by
  refine h.storeTwo asi a s.queueWords.1 s.queueWords.2 (done := id)
    (between := fun s1 => match s1.fpu.queue with
      | [] => s1
      | _ :: rest => s1.dequeue rest) (fun t => ?_) fun _ => rfl
  split
  · rfl
  · exact t.dequeue_flight _

/-! ### The coprocessor -/

theorem FlightFrom.cpGuard {body : State → State} (hb : FlightFrom u (body s)) : FlightFrom u (s.cpGuard body) := by
  rcases s.cpGuard_cases body with ⟨-, e⟩ | ⟨-, -, e⟩ | ⟨-, -, e⟩ <;> rw [e]
  · exact h.takeTrap _
  · exact (h.setCp _).takeTrap _
  · exact hb

theorem FlightFrom.cpLoadTrap : FlightFrom u s.cpLoadTrap := (h.setCp _).takeTrap _

theorem FlightFrom.loadCp (asi : Byte) (a : Word) {put : State → Word → State} (hp : ∀ t w, (put t w).flight = t.flight) :
    FlightFrom u (s.loadCp asi a put) := by
  rcases s.loadCp_cases asi a put with ⟨-, e⟩ | ⟨-, s1, h1, e⟩ | ⟨-, s1, w, h1, e⟩ <;> rw [e]
  · exact h.takeTrap _
  · exact (h.readWord h1).cpLoadTrap
  · exact (h.readWord h1).of_eq (hp s1 w)

theorem FlightFrom.loadDoubleCp (asi : Byte) (a : Word) (rd : Reg) : FlightFrom u (s.loadDoubleCp asi a rd) := by
  unfold State.loadDoubleCp
  split
  · split
    · next s1 h1 => exact (h.readWord h1).cpLoadTrap
    · next s1 w0 h1 =>
      split
      · next s2 h2 => exact (((((h.readWord h1).readWord h2).setCp _).setCreg _ _).setCreg _ _).takeTrap _
      · next s2 w1 h2 => exact (((((h.readWord h1).readWord h2).setCreg _ _).setCreg _ _).setCp _).advance
  · exact h.takeTrap _

theorem FlightFrom.storeCp (asi : Byte) (a v : Word) : FlightFrom u (s.storeCp asi a v) := by
  refine h.store _ fun t ht => ?_
  obtain ⟨s1, h1, rfl⟩ := Option.map_eq_some_iff.1 ht
  exact (h.memoryWrite h1).of_eq rfl

theorem FlightFrom.storeDoubleCp (asi : Byte) (a v0 v1 : Word) : FlightFrom u (s.storeDoubleCp asi a v0 v1) :=
  h.storeTwo asi a v0 v1 (between := id) (done := State.cpStored) (fun _ => rfl) fun _ => rfl

theorem FlightFrom.storeCpQueue (asi : Byte) (a : Word) : FlightFrom u (s.storeCpQueue asi a) :=
  h.storeTwo asi a s.cp.cqAddr s.cp.cqInstr (between := id) (done := fun t => t.setCp (Config.cpStoredQueue t.cp))
    (fun _ => rfl) fun _ => rfl

theorem FlightFrom.cpop (word : Word) : FlightFrom u (s.cpop word) := h.cpGuard (h.of_eq rfl)

theorem FlightFrom.branchFcc (values : List (BitVec 2)) (annul : Bool) (disp : BitVec 22) :
    FlightFrom u (s.branchFcc values annul disp) :=
  h.fpGuard (h.fpHold _ fun _ ht => ht.branch _ _ _)

theorem FlightFrom.branchCcc (values : List (BitVec 2)) (annul : Bool) (disp : BitVec 22) :
    FlightFrom u (s.branchCcc values annul disp) :=
  h.cpGuard (h.branch _ _ _)

/-! ### One instruction -/

theorem FlightFrom.exec (i : Instr) : ∃ t, exec i s = .next t ∧ FlightFrom u t := by
  cases i
  case ldsb | ldub => exact ⟨_, rfl, h.loadReg _ _ (h.readByte _ _)⟩
  case ldsh | lduh => exact ⟨_, rfl, h.loadReg _ _ (h.readHalf _ _)⟩
  case ld => exact ⟨_, rfl, h.loadReg _ _ (h.readWord rfl)⟩
  case ldd => exact ⟨_, rfl, h.loadDouble _ _ _⟩
  case ldsba | lduba => exact ⟨_, rfl, h.privileged (h.loadReg _ _ (h.readByte _ _))⟩
  case ldsha | lduha => exact ⟨_, rfl, h.privileged (h.loadReg _ _ (h.readHalf _ _))⟩
  case lda => exact ⟨_, rfl, h.privileged (h.loadReg _ _ (h.readWord rfl))⟩
  case ldda => exact ⟨_, rfl, h.privileged (h.loadDouble _ _ _)⟩
  case ldf => exact ⟨_, rfl, h.fpGuard (h.fpHold _ fun _ ht => ht.loadSingleFp _ _ _)⟩
  case lddf => exact ⟨_, rfl, h.fpGuard (h.fpHold _ fun _ ht => ht.loadDoubleFp _ _ _)⟩
  case ldfsr => exact ⟨_, rfl, h.fpGuard (h.loadFsr _ _)⟩
  case ldc | ldcsr => exact ⟨_, rfl, h.cpGuard (h.loadCp _ _ fun _ _ => rfl)⟩
  case lddc => exact ⟨_, rfl, h.cpGuard (h.loadDoubleCp _ _ _)⟩
  case stb | sth | st => exact ⟨_, rfl, h.storeAccess _ _ _ _ _⟩
  case std => exact ⟨_, rfl, h.storePair _ _ _ _⟩
  case stba | stha | sta => exact ⟨_, rfl, h.privileged (h.storeAccess _ _ _ _ _)⟩
  case stda => exact ⟨_, rfl, h.privileged (h.storePair _ _ _ _)⟩
  case stf => exact ⟨_, rfl, h.fpGuard (h.fpHold _ fun _ ht => ht.storeAccess _ _ _ _ _)⟩
  case stdf => exact ⟨_, rfl, h.fpGuard (h.fpHold _ fun _ ht => ht.storePair _ _ _ _)⟩
  case stfsr => exact ⟨_, rfl, h.fpGuard (h.storeFsr _ _)⟩
  case stdfq => exact ⟨_, rfl, h.privileged (h.fpGuard (h.storeQueue _ _))⟩
  case stc | stcsr => exact ⟨_, rfl, h.cpGuard (h.storeCp _ _ _)⟩
  case stdc => exact ⟨_, rfl, h.cpGuard (h.storeDoubleCp _ _ _ _)⟩
  case stdcq => exact ⟨_, rfl, h.privileged (h.cpGuard (h.storeCpQueue _ _))⟩
  case ldstub => exact ⟨_, rfl, h.loadStoreByte _ _ _⟩
  case ldstuba => exact ⟨_, rfl, h.privileged (h.loadStoreByte _ _ _)⟩
  case swap => exact ⟨_, rfl, h.swapWord _ _ _⟩
  case swapa => exact ⟨_, rfl, h.privileged (h.swapWord _ _ _)⟩
  case add | addx | sub | subx | and | andn | or | orn | xor | xnor | sll | srl | sra | sethi | rdy =>
    exact ⟨_, rfl, (h.setReg _ _ _).advance⟩
  case addcc | addxcc | taddcc | tsubcc | subcc | subxcc | andcc | andncc | orcc | orncc | xorcc | xnorcc =>
    exact ⟨_, rfl, h.writeFlagged _ _ _⟩
  case taddcctv | tsubcctv => exact ⟨_, rfl, h.ite_takeTrap _ _ (h.writeFlagged _ _ _)⟩
  case mulscc => exact ⟨_, rfl, (h.settled (t := s.putY _) rfl).writeFlagged _ _ _⟩
  case save | restore => exact ⟨_, rfl, h.changeWindow _ _ _ _⟩
  case be | ble | bl | bleu | bcs | bneg | bvs | bne | bg | bge | bgu | bcc | bpos | bvc =>
    exact ⟨_, rfl, h.branch _ _ _⟩
  case bn | ba => exact ⟨_, rfl, h.transfer _ _⟩
  case fbne | fblg | fbul | fbl | fbug | fbg | fbu | fbe | fbue | fbge | fbuge | fble | fbule | fbo =>
    exact ⟨_, rfl, h.branchFcc _ _ _⟩
  case fbn | fba => exact ⟨_, rfl, h.fpGuard (h.fpHold _ fun _ ht => ht.transfer _ _)⟩
  case cb123 | cb12 | cb13 | cb1 | cb23 | cb2 | cb3 | cb0 | cb03 | cb02 | cb023 | cb01 | cb013 | cb012 =>
    exact ⟨_, rfl, h.branchCcc _ _ _⟩
  case cbn | cba => exact ⟨_, rfl, h.cpGuard (h.transfer _ _)⟩
  case call => exact ⟨_, rfl, (h.setReg _ _ _).transfer _ _⟩
  case jmpl => exact ⟨_, rfl, h.jump _ _⟩
  case rett => exact h.rett _ _
  case tn | te | tle | tl | tleu | tcs | tneg | tvs | ta | tne | tg | tge | tgu | tcc | tpos | tvc =>
    exact ⟨_, rfl, h.trapOn _ _ _⟩
  case rdpsr | rdwim | rdtbr => exact ⟨_, rfl, h.privileged (h.setReg _ _ _).advance⟩
  case wry => exact ⟨_, rfl, (h.putDelayed _ _).advance⟩
  case wrpsr => exact ⟨_, rfl, h.ite_takeTrap _ _ (h.privileged (h.putPsrDelayed _).advance)⟩
  case wrwim | wrtbr => exact ⟨_, rfl, h.privileged (h.putDelayed _ _).advance⟩
  case unimp => exact ⟨_, rfl, h.takeTrap _⟩
  case iflush => exact h.iflush _ _
  case cpop1 | cpop2 => exact ⟨_, rfl, h.cpop _⟩
  all_goals exact ⟨_, rfl, h.fpop _ _ _ _ _⟩

/-! ### One step -/

theorem FlightFrom.notAnInstruction (e : DecodeError) (w : Word) : FlightFrom u (s.notAnInstruction e w) := by
  have hx : ∀ k, FlightFrom u (s.executing k) := fun _ => h.of_eq rfl
  cases e
  case unassignedFpop => exact (hx _).fpop _ _ _ _ _
  all_goals exact (hx _).takeTrap _

theorem FlightFrom.executeWord (w : Word) : ∃ t, s.executeWord w = .next t ∧ FlightFrom u t := by
  have hx : ∀ k, FlightFrom u (s.executing k) := fun _ => h.of_eq rfl
  unfold State.executeWord
  split
  · split
    · exact ⟨_, rfl, (hx _).takeTrap _⟩
    · exact (hx _).exec _
  · exact ⟨_, rfl, h.notAnInstruction _ w⟩

theorem FlightFrom.executeCycle : ∃ t, s.executeCycle = .next t ∧ FlightFrom u t := by
  have hfetch : FlightFrom u s.fetch.1 := h.of_eq (by rw [s.fetch_only])
  unfold State.executeCycle
  split
  · exact ⟨_, rfl, h.of_eq rfl⟩
  split
  · exact ⟨_, rfl, FlightFrom.trapEntry _⟩
  split
  · exact ⟨_, rfl, hfetch.of_eq rfl⟩
  split
  · next s1 e =>
    rw [e] at hfetch
    exact ⟨_, rfl, hfetch.takeTrap _⟩
  · next s1 w e =>
    rw [e] at hfetch
    exact hfetch.executeWord w

end Chain

/-- Over a step in execute_mode an old value in flight loses one of its instructions, unless it has just been noted. -/
theorem step_flight {s t : State} (hi : s.iu = .execute) (hstep : step s = .next t) :
    ∀ p ∈ t.flight, p.left = 3 ∨ ∃ q ∈ s.flight, q.field = p.field ∧ q.old = p.old ∧ q.left = p.left + 1 := by
  obtain ⟨hmode, -, -, -, hage⟩ := State.beginStep_execute hi
  rw [step_of_execute hmode] at hstep
  obtain ⟨t', ht', hflight⟩ := (FlightFrom.refl s.beginStep).executeCycle
  cases hstep.symm.trans ht'
  intro p hp
  rcases hflight p hp with hnew | hold
  · exact .inl hnew
  · rw [hage] at hold
    obtain ⟨q, hq, hfield, hvalue, hleft⟩ := mem_ageFlight hold
    exact .inr ⟨q, hq, hfield.symm, hvalue.symm, hleft.symm⟩

end Sys2Proof.Machine

/-! ## Writes of the state registers (O41) -/

namespace Sys2Proof.Machine

/-! ### Writers that settle a field -/

/-- Every use of a field with no old value in flight sees its value. -/
theorem State.see_of_none {s : State} {f : Delayed} (h : ∀ p ∈ s.flight, p.field ≠ f) (u : Use) : s.see u f = s.live f := by
  refine State.see_of_olds ?_ u
  unfold State.olds
  rw [List.map_eq_nil_iff, List.filter_eq_nil_iff]
  exact fun p hp => by simpa using h p hp

@[simp] theorem State.transfer_flight (s : State) (target : Word) (annul : Bool) :
    (s.transfer target annul).flight = s.flight := by
  unfold State.transfer
  cases annul <;> cases s.prev.conditional <;> rfl

@[simp] theorem State.transfer_psr (s : State) (target : Word) (annul : Bool) : (s.transfer target annul).psr = s.psr := by
  unfold State.transfer
  cases annul <;> cases s.prev.conditional <;> rfl

/-- The answer is an advance that leaves some old values in flight. -/
def AdvancesWith (s : State) (o : Out) (flight : List InFlight) : Prop :=
  ∃ t, o = .next t ∧ Advanced s t ∧ t.flight = flight

theorem writeFlagged_settles (s : State) (rd : Reg) (v : Word) (flags : Icc) :
    AdvancesWith s (.next (s.writeFlagged rd v flags)) (s.settled .icc) := by
  refine ⟨_, rfl, ⟨?_, ?_⟩, ?_⟩ <;> simp [State.writeFlagged, State.settled]

/-- MULScc settles Y, then icc. -/
theorem exec_mulscc_settles (s : State) (rd rs1 : Reg) (src : Operand2) :
    AdvancesWith s (exec (.mulscc rd rs1 src) s) (s.flight.filter fun p => p.field != .icc && p.field != .y) := by
  obtain ⟨t, ht, hadv, hflight⟩ := writeFlagged_settles (s.putY _) rd _ _
  refine ⟨t, ht, hadv, hflight.trans ?_⟩
  simp [State.settled, List.filter_filter]

section Unmasked
variable {s : State} (hw : s.wim = 0) (hwim : ∀ p ∈ s.flight, p.field ≠ .wim)
include hw hwim

/-- With no bit of the WIM set, and none to be seen, no window traps. -/
theorem State.see_wim_clear (u : Use) (n : Nat) : (s.see u .wim).getLsbD n = false := by
  simp [State.see_of_none hwim, State.live, hw]

theorem changeWindow_settles (w : BitVec 5) (t : Trap) (rd : Reg) (v : Word) :
    AdvancesWith s (.next (s.changeWindow w t rd v)) (s.settled .cwp) := by
  unfold State.changeWindow
  rw [State.see_wim_clear hw hwim, if_neg (by decide)]
  refine ⟨_, rfl, ⟨?_, ?_⟩, ?_⟩ <;> simp

/-- RETT that completes settles ET, CWP and S. -/
theorem exec_rett_settles (het : ∀ p ∈ s.flight, p.field ≠ .et) (hs : ∀ p ∈ s.flight, p.field ≠ .s)
    (hpet : s.psr.et = false) (hps : s.psr.s = true) {rs1 : Reg} {src : Operand2} (ha : (s.ea rs1 src).toNat % 4 = 0) :
    ∃ t, exec (.rett rs1 src) s = .next t ∧ t.psr.et = true ∧
      t.flight = s.flight.filter (fun p => p.field != .cwp && p.field != .et && p.field != .s) := by
  have hseeEt : s.seeBool .returnEnable .et = false := by
    simp [State.seeBool, State.see_of_none het, State.live, hpet, wordOfBool_getElem]
  have hseeS : s.seeBool .privilege .s = true := by
    simp [State.seeBool, State.see_of_none hs, State.live, hps, wordOfBool_getElem]
  have hal : aligned (s.ea rs1 src) 4 = true := by simpa [aligned] using ha
  refine ⟨((((s.putEt true).putCwp (windowAbove s.cfg (s.seeCwp .window))).putS
    (s.seeBool .returnMode .ps)).setFetchOpen (!s.prev.jmpl)).transfer (s.ea rs1 src) false, ?_, by simp, ?_⟩
  · show execRett rs1 src s = _
    simp [execRett, hseeEt, hseeS, State.see_wim_clear hw hwim, hal]
  · simp [State.settled, List.filter_filter, Bool.and_comm, Bool.and_left_comm]

end Unmasked

/-- A trap taken with traps enabled and no write of ET in flight leaves nothing in flight (R416). -/
theorem exec_ta_clears {s : State} (hpet : s.psr.et = true) (het : ∀ p ∈ s.flight, p.field ≠ .et)
    (hr : s.resetAhead = false) (rs1 : Reg) (src : Operand2) :
    ∃ t, exec (.ta rs1 src) s = .next t ∧ t.psr.et = false ∧ t.flight = [] := by
  have hsee : s.seeBool .trapEnable .et = true := by
    simp [State.seeBool, State.see_of_none het, State.live, hpet, wordOfBool_getElem]
  refine ⟨s.trapEntry (.trapInstruction ((s.ea rs1 src).extractLsb' 0 7)), ?_, by simp, by simp⟩
  show Host.Outcome.next (s.trapOn iccAlways rs1 src) = _
  simp [State.trapOn, iccAlways, State.takeTrap, hr, hsee]

/-! ### The instructions -/

section Writes
variable {s : State} (hq : s.quiet) (rs1 : Reg) (src : Operand2)
include hq

theorem exec_wry_quiet :
    exec (.wry rs1 src) s = .next (s.putDelayed .y (s.r rs1 ^^^ s.operand src)).advance := by
  rw [← State.writeValue_quiet hq]
  rfl

theorem exec_wrpsr_quiet :
    exec (.wrpsr rs1 src) s = .next (if nwindows s.cfg ≤ ((s.r rs1 ^^^ s.operand src).extractLsb' 0 5).toNat then
        s.takeTrap .illegalInstruction
      else s.privileged fun s' => (s'.putPsrDelayed (s.r rs1 ^^^ s.operand src)).advance) := by
  rw [← State.writeValue_quiet hq]
  rfl

theorem exec_wrwim_quiet (hs : s.psr.s = true) :
    exec (.wrwim rs1 src) s = .next (s.putDelayed .wim ((s.r rs1 ^^^ s.operand src) &&& wimMask s.cfg)).advance := by
  rw [← State.writeValue_quiet hq]
  exact congrArg _ (State.privileged_supervisor hq hs _)

theorem exec_wrtbr_quiet (hs : s.psr.s = true) :
    exec (.wrtbr rs1 src) s =
      .next (s.putDelayed .tba (((s.r rs1 ^^^ s.operand src).extractLsb' 12 20).setWidth 32)).advance := by
  rw [← State.writeValue_quiet hq]
  exact congrArg _ (State.privileged_supervisor hq hs _)

theorem exec_wry_writes : ∃ t, exec (.wry rs1 src) s = .next t ∧ Advanced s t ∧ t.y = s.r rs1 ^^^ s.operand src ∧
    DelayedFrom s t ∧ RegsKept s t ∧ MemKept s t ∧ Completed { s with flight := t.flight, y := t.y } t := by
  have hd := DelayedFrom.of_putDelayed hq (f := .y) (v := s.r rs1 ^^^ s.operand src) rfl
  obtain ⟨hadv, hdel, hregs, hmem, hdone⟩ := hd.advance (s.putDelayed_only _ _)
  rw [State.putDelayed_psr, State.putDelayed_wim, State.putDelayed_tba] at hdone
  exact ⟨_, exec_wry_quiet hq rs1 src, hadv, State.putDelayed_y s _ _, hdel, hregs, hmem, hdone⟩

theorem exec_wrwim_writes (hs : s.psr.s = true) : ∃ t, exec (.wrwim rs1 src) s = .next t ∧ Advanced s t ∧
    (∀ i, t.wim.getLsbD i = ((s.r rs1 ^^^ s.operand src).getLsbD i && decide (i < nwindows s.cfg))) ∧ DelayedFrom s t ∧
    RegsKept s t ∧ MemKept s t ∧ Completed { s with flight := t.flight, wim := t.wim } t := by
  have hd := DelayedFrom.of_putDelayed hq (f := .wim) (v := (s.r rs1 ^^^ s.operand src) &&& wimMask s.cfg) rfl
  obtain ⟨hadv, hdel, hregs, hmem, hdone⟩ := hd.advance (s.putDelayed_only _ _)
  rw [State.putDelayed_psr, State.putDelayed_tba, State.putDelayed_y] at hdone
  refine ⟨_, exec_wrwim_quiet hq rs1 src hs, hadv, fun i => ?_, hdel, hregs, hmem, hdone⟩
  rw [State.advance_wim, State.putDelayed_wim]
  exact getLsbD_and_wimMask _ _ i

theorem exec_wrtbr_writes (hs : s.psr.s = true) : ∃ t, exec (.wrtbr rs1 src) s = .next t ∧ Advanced s t ∧
    t.tba = (s.r rs1 ^^^ s.operand src).extractLsb' 12 20 ∧ DelayedFrom s t ∧ RegsKept s t ∧ MemKept s t ∧
    Completed { s with flight := t.flight, tba := t.tba } t := by
  have hd := DelayedFrom.of_putDelayed hq (s.live_setLive .tba ((s.r rs1 ^^^ s.operand src).extractLsb' 12 20))
  obtain ⟨hadv, hdel, hregs, hmem, hdone⟩ := hd.advance (s.putDelayed_only _ _)
  rw [State.putDelayed_psr, State.putDelayed_wim, State.putDelayed_y] at hdone
  refine ⟨_, exec_wrtbr_quiet hq rs1 src hs, hadv, ?_, hdel, hregs, hmem, hdone⟩
  rw [State.advance_tba, State.putDelayed_tba]
  exact setWidth_setWidth_word _ (by decide)

theorem exec_wrpsr_writes (hs : s.psr.s = true)
    (hv : ((s.r rs1 ^^^ s.operand src).extractLsb' 0 5).toNat < nwindows s.cfg) :
    ∃ t, exec (.wrpsr rs1 src) s = .next t ∧ Advanced s t ∧ t.psr = psrOfWord (s.r rs1 ^^^ s.operand src) ∧
      DelayedFrom s t ∧ RegsKept s t ∧ MemKept s t ∧ Completed { s with flight := t.flight, psr := t.psr } t := by
  have hexec : exec (.wrpsr rs1 src) s = .next (s.putPsrDelayed (s.r rs1 ^^^ s.operand src)).advance := by
    rw [exec_wrpsr_quiet hq, if_neg (Nat.not_le_of_lt hv), State.privileged_supervisor hq hs]
  have hd := DelayedFrom.of_putPsrDelayed hq (s.r rs1 ^^^ s.operand src)
  have ho := s.putPsrDelayed_only (s.r rs1 ^^^ s.operand src)
  have hpsr := s.putPsrDelayed_psr (s.r rs1 ^^^ s.operand src)
  obtain ⟨hwim, htba, hy⟩ := s.putPsrDelayed_others (s.r rs1 ^^^ s.operand src)
  generalize s.putPsrDelayed (s.r rs1 ^^^ s.operand src) = m at *
  obtain ⟨hadv, hdel, hregs, hmem, hdone⟩ := hd.advance ho
  rw [hwim, htba, hy] at hdone
  exact ⟨_, hexec, hadv, hpsr, hdel, hregs, hmem, hdone⟩

theorem exec_wrpsr_traps (het : s.psr.et = true)
    (hv : nwindows s.cfg ≤ ((s.r rs1 ^^^ s.operand src).extractLsb' 0 5).toNat) : Traps s (exec (.wrpsr rs1 src) s) 2 := by
  rw [exec_wrpsr_quiet hq, if_pos hv]
  exact traps_of_quiet hq het _

end Writes

/-- Settles O41: each write is a chain of delayed writes (`DelayedFrom.putDelayed`) and the advance; a step only ages what is in
flight (`step_flight`); the other writers of a field settle it. -/
theorem writeStateRegisters : Obligations.WriteStateRegisters := by
  unfold Obligations.WriteStateRegisters
  refine ⟨fun s rs1 src hq => ⟨exec_wry_writes hq rs1 src, exec_wrpsr_writes hq rs1 src, exec_wrwim_writes hq rs1 src,
      exec_wrtbr_writes hq rs1 src⟩, fun s rs1 src hq het hv => exec_wrpsr_traps hq rs1 src het hv,
    fun s t u f h => h.see u f, fun s f v => ⟨fun g hg => s.putDelayed_live_of_ne hg v,
      fun hv => (s.putDelayed_live f v f).trans hv, s.putDelayed_flight f v, s.putDelayed_only f v⟩,
    fun s t hi hstep => step_flight hi hstep, fun s rd rs1 src => ⟨fun hw hwim i hi => ?_, fun hw hnone hpet hps ha => ?_,
      fun i hi => ?_, exec_mulscc_settles s rd rs1 src⟩,
    fun s rs1 src trap => ⟨s.trapEntry_flight trap, fun hpet het hr => exec_ta_clears hpet het hr rs1 src⟩⟩
  · simp only [List.mem_cons, List.not_mem_nil, or_false] at hi
    rcases hi with rfl | rfl
    · exact changeWindow_settles hw hwim _ _ _ _
    · exact changeWindow_settles hw hwim _ _ _ _
  · exact exec_rett_settles hw (fun p hp => (hnone p hp).1) (fun p hp => (hnone p hp).2.1) (fun p hp => (hnone p hp).2.2)
      hpet hps ha
  · simp only [List.mem_cons, List.not_mem_nil, or_false] at hi
    rcases hi with rfl | rfl | rfl | rfl | rfl | rfl | rfl | rfl | rfl | rfl | rfl | rfl <;>
      exact writeFlagged_settles s _ _ _

end Sys2Proof.Machine

/-! ## FPops in every mode of the FPU (O49, O50, O51, O52) -/

namespace Sys2Proof.Machine

/-! ### Exception mode and the queue -/

section OtherModes
variable {s : State} (hq : s.quiet) (hef : s.psr.ef = true) (hp : s.cfg.fpuPresent = true)
include hq hef hp

theorem State.fpDisabled_enabled : s.fpDisabled = false := by
  simp [State.fpDisabled, State.seeEf_quiet hq, hef, hp]

/-- An FPop in exception mode is a sequence error (R440). -/
theorem State.fpop_exception (hm : s.fpu.mode = .exception) (fn : FpFn) (rd rs1 rs2 : Reg) (w : Word) :
    s.fpop fn rd rs1 rs2 w = s.sequenceError.advance := by
  simp [State.fpop, State.fpDisabled_enabled hq hef hp, hm]

/-- An executing FPU with room in its queue does not wait, and takes an FPop in (R433, R435). -/
theorem State.fpop_room (hm : s.fpu.mode = .execute) (hroom : s.fpu.queue.length < queueDepth s.cfg) (fn : FpFn)
    (rd rs1 rs2 : Reg) (w : Word) : s.fpop fn rd rs1 rs2 w = (s.accept ⟨s.pc, w, fn, rd, rs1, rs2⟩).advance := by
  have hfull : ¬ queueDepth s.cfg ≤ s.fpu.queue.length := Nat.not_le_of_lt hroom
  have hhold : s.holdWhile (fun q => decide (queueDepth s.cfg ≤ q.length)) = s := by
    unfold State.holdWhile
    cases s.fpu.queue.length with
    | zero => rfl
    | succ n => simp [State.fpuStepsWhile, hfull]
  simp [State.fpop, State.fpDisabled_enabled hq hef hp, hm, hhold, hfull]

/-- A floating-point access that waits for queued FPops is its access in exception mode, where the queue stands still. -/
theorem AccessMeets.stopped (hm : s.fpu.mode = .exception) {access : State → Byte → Word → State}
    {P : Byte → Word → Out → Prop} (h : AccessMeets access s P) (wait : List FqEntry → Bool) (rs1 : Reg) (src : Operand2) :
    P s.space (s.address rs1 src)
      (.next (s.fpGuard fun s => s.fpHold wait fun s => access s s.dataAsi (s.ea rs1 src))) :=
  h.guarded hq (guard := fun s body => s.fpGuard fun s => s.fpHold wait body)
    (State.fpBranch_open (.inr ⟨hq, hef, hp, hm⟩) wait) rs1 src

end OtherModes

/-- A load's write of an f register leaves it as it was or loads it; every other one is as before (U7). -/
theorem State.freg_loadFreg (s : State) (n : Nat) (r : Reg) (v : Word) :
    ((s.loadFreg n r v).freg r = s.freg r ∨ (s.loadFreg n r v).freg r = v) ∧
      ∀ m, m ≠ r → (s.loadFreg n r v).freg m = s.freg m := by
  unfold State.loadFreg
  split
  · exact ⟨.inl rfl, fun _ _ => rfl⟩
  · exact ⟨.inr ((s.freg_setFreg r r v).trans (if_pos rfl)), fun m hm => (s.freg_setFreg r m v).trans (if_neg hm)⟩

/-- The FPU after a load that wrote some f registers and is a sequence error (R543). -/
theorem State.loadDone_exception {s u : State} (hu : s.onlyFpuChanged u)
    (hf : u.fpu = { s.fpu with f := u.fpu.f }) : ∃ t, u.loadDone .exception = t ∧ Advanced s t ∧ RegsKept s t ∧
      MemKept s t ∧ OnlyFpu s t ∧ (∀ n, t.freg n = u.freg n) ∧
      t.fpu = { s.fpu with mode := .exceptionPending, fsr := { s.fpu.fsr with ftt := 4 }, f := t.fpu.f } := by
  have hseq : u.onlyFpuChanged u.sequenceError := rfl
  obtain ⟨hadv, hregs, hmem, honly⟩ := (hu.trans hseq).advance
  have hfpu : u.sequenceError.fpu =
      { s.fpu with mode := .exceptionPending, fsr := { s.fpu.fsr with ftt := 4 }, f := u.fpu.f } := by
    show { u.fpu with mode := FpuMode.exceptionPending, fsr := { u.fpu.fsr with ftt := 4 } } = _
    rw [hf]
  exact ⟨_, congrArg State.advance (if_pos rfl), hadv, hregs, hmem, honly, fun _ => rfl, hfpu⟩

theorem State.loadFreg_fpu (s : State) (n : Nat) (r : Reg) (v : Word) :
    (s.loadFreg n r v).fpu = { s.fpu with f := (s.loadFreg n r v).fpu.f } := by
  unfold State.loadFreg
  split <;> rfl

section Loads
variable {s : State} (hm : s.fpu.mode = .exception) (rd : Reg) (k : Nat)
include hm

theorem loadSingleFp_exception : AccessMeets (fun s asi a => s.loadSingleFp asi a rd) s fun asi a o =>
    s.locate .read asi a = some k → a.toNat % 4 = 0 →
      ∃ t, o = .next t ∧ Advanced s t ∧ RegsKept s t ∧ MemKept s t ∧ OnlyFpu s t ∧
        (t.freg rd = s.freg rd ∨ t.freg rd = Memory.word s.mem k) ∧ FregsKeptBut s t [rd] ∧
        t.fpu = { s.fpu with mode := .exceptionPending, fsr := { s.fpu.fsr with ftt := 4 }, f := t.fpu.f } := by
  intro asi a hl ha
  obtain ⟨hself, hother⟩ := s.freg_loadFreg 0 rd (Memory.word s.mem k)
  obtain ⟨t, ht, hadv, hregs, hmem, honly, hfreg, hfpu⟩ :=
    State.loadDone_exception (s.loadFreg_only 0 rd (Memory.word s.mem k)) (s.loadFreg_fpu 0 rd _)
  have he : s.loadSingleFp asi a rd = t := by
    simp only [State.loadSingleFp, aligned_true ha, if_true, State.readWord_located hl, hm, ht]
  refine ⟨t, congrArg _ he, hadv, hregs, hmem, honly, ?_, fun n hn => ?_, hfpu⟩
  · rw [hfreg]; exact hself
  · rw [hfreg]; exact hother n (by simpa using hn)

theorem loadDoubleFp_exception (k' : Nat) : AccessMeets (fun s asi a => s.loadDoubleFp asi a rd) s fun asi a o =>
    s.locate .read asi a = some k → a.toNat % 8 = 0 → s.locate .read asi (a + 4) = some k' →
      ∃ t, o = .next t ∧ Advanced s t ∧ RegsKept s t ∧ MemKept s t ∧ OnlyFpu s t ∧
        (t.freg (pairHigh rd) = s.freg (pairHigh rd) ∨ t.freg (pairHigh rd) = Memory.word s.mem k) ∧
        (t.freg (pairLow rd) = s.freg (pairLow rd) ∨ t.freg (pairLow rd) = Memory.word s.mem k') ∧
        FregsKeptBut s t [pairHigh rd, pairLow rd] ∧
        t.fpu = { s.fpu with mode := .exceptionPending, fsr := { s.fpu.fsr with ftt := 4 }, f := t.fpu.f } := by
  intro asi a hl ha hl'
  obtain ⟨hhigh, hnothigh⟩ := s.freg_loadFreg 0 (pairHigh rd) (Memory.word s.mem k)
  have honly1 := s.loadFreg_only 0 (pairHigh rd) (Memory.word s.mem k)
  have hfpu1 := s.loadFreg_fpu 0 (pairHigh rd) (Memory.word s.mem k)
  obtain ⟨hlow, hnotlow⟩ :=
    (s.loadFreg 0 (pairHigh rd) (Memory.word s.mem k)).freg_loadFreg 1 (pairLow rd) (Memory.word s.mem k')
  have honly2 := (s.loadFreg 0 (pairHigh rd) (Memory.word s.mem k)).loadFreg_only 1 (pairLow rd) (Memory.word s.mem k')
  have hfpu2 := (s.loadFreg 0 (pairHigh rd) (Memory.word s.mem k)).loadFreg_fpu 1 (pairLow rd) (Memory.word s.mem k')
  obtain ⟨t, ht, hadv, hregs, hmem, honly, hfreg, hfpu⟩ :=
    State.loadDone_exception (honly1.trans honly2) (by rw [hfpu2, hfpu1])
  have he : s.loadDoubleFp asi a rd = t := by
    simp only [State.loadDoubleFp, aligned_true ha, if_true, State.readWord_located hl, State.readWord_located hl', hm, ht]
  refine ⟨t, congrArg _ he, hadv, hregs, hmem, honly, ?_, ?_, fun n hn => ?_, hfpu⟩
  · rw [hfreg, hnotlow _ (pairHigh_ne_pairLow rd)]; exact hhigh
  · rw [hfreg, ← hnothigh _ (pairHigh_ne_pairLow rd).symm]; exact hlow
  · obtain ⟨hn0, hn1⟩ : n ≠ pairHigh rd ∧ n ≠ pairLow rd := by simpa using hn
    rw [hfreg, hnotlow n hn1, hnothigh n hn0]

theorem loadFsr_exception : AccessMeets (fun s asi a => s.loadFsr asi a) s fun asi a o =>
    s.locate .read asi a = some k → a.toNat % 4 = 0 →
      ∃ t, o = .next t ∧ Advanced s t ∧ RegsKept s t ∧ MemKept s t ∧ OnlyFpu s t ∧
        ∃ r, (r = s.fpu.fsr ∨ r = fsrLoad s.fpu.fsr (Memory.word s.mem k)) ∧
          t.fpu = { s.fpu with mode := .exceptionPending, fsr := { r with ftt := 4 } } := by
  intro asi a hl ha
  have hhold : s.holdWhile waitAll = s := State.fpuStepsWhile_stopped (by rw [hm]; decide) waitAll _
  have he : s.loadFsr asi a = s.putLoadedFsr (Memory.word s.mem k) := by
    simp [State.loadFsr, aligned_true ha, State.readWord_located hl, hhold, hm]
  have hput : ∃ r, (r = s.fpu.fsr ∨ r = fsrLoad s.fpu.fsr (Memory.word s.mem k)) ∧
      s.putLoadedFsr (Memory.word s.mem k) = ((s.setFsr { r with ftt := 4 }).setFpuMode .exceptionPending).advance := by
    unfold State.putLoadedFsr
    rw [hm]
    split
    · exact ⟨_, .inl rfl, rfl⟩
    · exact ⟨_, .inr rfl, rfl⟩
  obtain ⟨r, hr, hput⟩ := hput
  have honly : s.onlyFpuChanged ((s.setFsr { r with ftt := 4 }).setFpuMode .exceptionPending) := rfl
  obtain ⟨hadv, hregs, hmem, honly⟩ := honly.advance
  exact ⟨_, congrArg _ (he.trans hput), hadv, hregs, hmem, honly, r, hr, rfl⟩

end Loads

theorem storeFsr_exception {s : State} (hwf : Memory.wf s.mem = true) (k : Nat) (hm : s.fpu.mode = .exception) :
    AccessMeets (fun s asi a => s.storeFsr asi a) s fun asi a o =>
      s.locate .write asi a = some k → a.toNat % 4 = 0 → StoresBytes s o k (bytesOfWord (fsrWord s.fpu.fsr)) := by
  intro asi a hl ha
  have hhold : s.holdWhile waitAll = s := State.fpuStepsWhile_stopped (by rw [hm]; decide) waitAll _
  have he : s.storeFsr asi a = s.store true (s.writeWord asi a (fsrWord s.fpu.fsr)) := by
    simp [State.storeFsr, aligned_true ha, State.fpHold, hhold, hm]
  simp only [he]
  exact storesBytes_of_located hwf (fsrWord s.fpu.fsr) hl

/-- Settles O49: in exception mode nothing waits, so that an FPop or a load is a sequence error and a store is its access;
an executing FPU with room takes an FPop in. -/
theorem fpopInOtherModes : Obligations.FpopInOtherModes := by
  unfold Obligations.FpopInOtherModes
  refine ⟨fun s i fn rd rs1 rs2 hf hq hef hp hm => ?_, fun s i fn rd rs1 rs2 hf hq hef hp hc hm hroom => ?_,
    fun s rd rs1 src k hq hef hp hm => ⟨fun hl => ⟨?_, fun k' => ?_, ?_⟩, fun hwf hl => ⟨?_, ?_, ?_⟩⟩⟩
  · have hseq : s.onlyFpuChanged s.sequenceError := rfl
    obtain ⟨hadv, hregs, hmem, honly⟩ := hseq.advance
    refine ⟨_, ?_, hadv, hregs, hmem, honly, rfl⟩
    rw [exec_of_fpopOf hf, State.fpop_exception hq hef hp hm]
  · have haccept : s.accept ⟨s.pc, encode i, fn, rd, rs1, rs2⟩ =
        s.setQueue (s.fpu.queue ++ [⟨s.pc, encode i, fn, rd, rs1, rs2⟩]) := by
      simp [State.accept, hc]
    obtain ⟨hadv, hregs, hmem, honly⟩ := (s.accept_only ⟨s.pc, encode i, fn, rd, rs1, rs2⟩).advance
    refine ⟨_, ?_, hadv, hregs, hmem, honly, ?_⟩
    · rw [exec_of_fpopOf hf, State.fpop_room hq hef hp hm hroom]
    · rw [haccept]; rfl
  · exact (loadSingleFp_exception hm rd k).stopped hq hef hp hm (waitUse [rd]) rs1 src hl
  · exact fun ha hl' =>
      (loadDoubleFp_exception hm rd k k').stopped hq hef hp hm (waitUse [pairHigh rd, pairLow rd]) rs1 src hl ha hl'
  · exact (loadFsr_exception hm k).guarded hq (State.fpGuard_enabled hq hef hp (by rw [hm]; decide)) rs1 src hl
  · exact (storeOfWord_located hwf k fun s => s.freg rd).stopped hq hef hp hm (waitWrite [rd]) rs1 src hl
  · exact (storeOfPair_located hwf k (fun s => s.freg (pairHigh rd)) fun s => s.freg (pairLow rd)).stopped hq hef hp hm
      (waitWrite [pairHigh rd, pairLow rd]) rs1 src hl
  · exact (storeFsr_exception hwf k hm).guarded hq (State.fpGuard_enabled hq hef hp (by rw [hm]; decide)) rs1 src hl

/-! ### Completion in the sequential FPU -/

/-- The state in which the one entry of the queue completes: its free values are drawn. -/
def State.entered (s : State) (e : FqEntry) : State := { s with fpu := { s.fpu with queue := [e] }, tick := s.tick + 1 }

/-- The completion of a single queued FPop. -/
theorem State.completeFront_single (s : State) {e : FqEntry} {ans : FpAnswer} (ha : fpAnswer e.fn s e.rs1 e.rs2 = some ans) :
    (s.setQueue [e]).completeFront =
      if e.fn ∈ s.cfg.unimplemented then (s.entered e).fpStop 3 (s.freeBits .cexcBits 5)
      else if (e.fn, ans.a, ans.b) ∈ s.cfg.unfinished then
        (s.entered e).fpStop 2 (s.freeBits .cexcBits 5)
      else (s.entered e).finishEntry e.rd [] ans := by
  unfold State.completeFront
  simp only [State.setQueue_fpu, fpAnswer_setQueue, ha, List.contains_iff_mem]
  rfl

/-- The FPU stopped at a single entry. -/
theorem State.fpStop_single (s : State) (e : FqEntry) (ftt : BitVec 3) (cexc : BitVec 5) :
    FpStopped s ((s.entered e).fpStop ftt cexc).advance ftt e :=
  ⟨rfl, rfl, rfl, rfl, rfl, rfl, rfl, rfl, rfl, rfl, rfl⟩

/-- An enabled exception of an FPop that is no move stops the FPU (R437). -/
theorem State.finishEntry_enabled (s : State) (rd : Reg) (rest : List FqEntry) {ans : FpAnswer}
    (hr : ∀ w, ans.result ≠ .move w) (ht : ans.texc &&& s.fpu.fsr.tem &&& (s.cfg.temBits ||| 1) ≠ 0) :
    s.finishEntry rd rest ans = s.fpStop 1 (implementedBits s.cfg.cexcBits ans.texc s.fpu.fsr.cexc) := by
  unfold State.finishEntry
  cases h : ans.result with
  | move w => exact absurd h (hr w)
  | single w => exact if_neg ht
  | double d => exact if_neg ht
  | extended x => exact if_neg ht
  | fcc c => exact if_neg ht

/-- The FSR after an FPop that completes: its exceptions current and accrued, ftt 0 (R447, D12). -/
def State.completedFsr (s : State) (texc : BitVec 5) : Fsr :=
  { s.fpu.fsr with cexc := implementedBits s.cfg.cexcBits texc s.fpu.fsr.cexc,
                   aexc := s.fpu.fsr.aexc ||| (texc &&& (s.cfg.aexcBits ||| 1)), ftt := 0 }

/-- An FPop that is no move, with no enabled exception, writes its result (R447). -/
theorem State.finishEntry_disabled (s : State) (rd : Reg) (rest : List FqEntry) {ans : FpAnswer}
    (hr : ∀ w, ans.result ≠ .move w) (ht : ans.texc &&& s.fpu.fsr.tem &&& (s.cfg.temBits ||| 1) = 0) :
    s.finishEntry rd rest ans = ((s.setFsr (s.completedFsr ans.texc)).writeResult rd ans.result).setQueue rest := by
  unfold State.finishEntry
  cases h : ans.result with
  | move w => exact absurd h (hr w)
  | single w => exact if_pos ht
  | double d => exact if_pos ht
  | extended x => exact if_pos ht
  | fcc c => exact if_pos ht

theorem quad_distinct : ∀ x : Reg, quadE x ≠ quadF x ∧ quadE x ≠ quadFLow x ∧ quadF x ≠ quadFLow x := by decide

/-- The f registers of a quadruple after the three of an extended were written. -/
theorem State.freg_setFreg_quad (s : State) (x : Reg) (v0 v1 v2 : Word) :
    let t := ((s.setFreg (quadE x) v0).setFreg (quadF x) v1).setFreg (quadFLow x) v2
    t.freg (quadE x) = v0 ∧ t.freg (quadF x) = v1 ∧ t.freg (quadFLow x) = v2 ∧
      FregsKeptBut s t [quadE x, quadF x, quadFLow x] := by
  obtain ⟨h01, h02, h12⟩ := quad_distinct x
  refine ⟨by simp [State.freg_setFreg, h01, h02], by simp [State.freg_setFreg, h12], by simp [State.freg_setFreg],
    fun n hn => ?_⟩
  obtain ⟨h0, h1, h2⟩ : n ≠ quadE x ∧ n ≠ quadF x ∧ n ≠ quadFLow x := by simpa using hn
  simp [State.freg_setFreg, h0, h1, h2]

/-- The two halves of a double and the three words of an extended, put together again. -/
theorem append_extract_double (d : BitVec 64) : (d.extractLsb' 32 32 ++ d.extractLsb' 0 32 : BitVec 64) = d := by
  have hd := d.isLt
  apply BitVec.eq_of_toNat_eq
  simp only [toNat_append_add, toNat_extract]
  omega

theorem append_extract_extended (x : BitVec 96) :
    (x.extractLsb' 64 32 ++ x.extractLsb' 32 32 ++ x.extractLsb' 0 32 : BitVec 96) = x := by
  have hx := x.isLt
  apply BitVec.eq_of_toNat_eq
  simp only [toNat_append_add, toNat_extract]
  omega

/-- A written result is in its place and in no other. -/
theorem State.writeResult_written (s : State) (rd : Reg) {r : FpResult} (hr : ∀ w, r ≠ .move w) :
    ResultWritten s (s.writeResult rd r) rd r := by
  cases r with
  | move w => exact absurd rfl (hr w)
  | single w =>
    exact ⟨(s.freg_setFreg rd rd w).trans (if_pos rfl),
      fun n hn => (s.freg_setFreg rd n w).trans (if_neg (by simpa using hn)), rfl⟩
  | double d =>
    obtain ⟨h0, h1, hkept⟩ := s.freg_setFreg_pair rd (d.extractLsb' 32 32) (d.extractLsb' 0 32)
    refine ⟨?_, hkept, rfl⟩
    exact (congrArg₂ (· ++ ·) h0 h1).trans (append_extract_double d)
  | extended x =>
    obtain ⟨h0, h1, h2, hkept⟩ :=
      s.freg_setFreg_quad rd (x.extractLsb' 64 32) (x.extractLsb' 32 32) (x.extractLsb' 0 32)
    refine ⟨?_, hkept, rfl⟩
    exact (congrArg₂ (· ++ ·) (congrArg₂ (· ++ ·) h0 h1) h2).trans (append_extract_extended x)
  | fcc c => exact ⟨fun _ _ => rfl, rfl⟩

/-- What a completed FPop leaves behind: its result written, the queue empty, and the FSR as R447, R494 and D12 have it. -/
def FpCompleted (s t : State) (rd : Reg) (ans : FpAnswer) : Prop :=
  t.fpu.queue = [] ∧ t.fpu.mode = s.fpu.mode ∧ ResultWritten s t rd ans.result ∧ FsrControlKept s t ∧
    ((∀ w, ans.result ≠ .move w) → t.fpu.fsr.ftt = 0 ∧
      t.fpu.fsr.aexc = s.fpu.fsr.aexc ||| (ans.texc &&& (s.cfg.aexcBits ||| 1)) ∧
      t.fpu.fsr.cexc = implementedBits s.cfg.cexcBits ans.texc s.fpu.fsr.cexc)

theorem State.finishEntry_completed (s : State) (rd : Reg) {ans : FpAnswer}
    (ht : ans.texc &&& s.fpu.fsr.tem &&& (s.cfg.temBits ||| 1) = 0) :
    FpCompleted s (s.finishEntry rd [] ans) rd ans := by
  by_cases hmove : ∃ w, ans.result = .move w
  · obtain ⟨w, hw⟩ := hmove
    have he : s.finishEntry rd [] ans =
        ((s.setFreg rd w).setFsr { s.fpu.fsr with ftt := if s.freeBool .moveFtt then 0 else s.fpu.fsr.ftt }).setQueue [] := by
      simp [State.finishEntry, hw]
    rw [he]
    refine ⟨rfl, rfl, ?_, ⟨rfl, rfl, rfl, rfl, rfl⟩, fun h => absurd hw (h w)⟩
    rw [hw]
    refine ⟨(s.freg_setFreg rd rd w).trans (if_pos rfl),
      fun n hn => (s.freg_setFreg rd n w).trans (if_neg (by simpa using hn)), rfl, ?_⟩
    show (if s.freeBool .moveFtt then (0 : BitVec 3) else s.fpu.fsr.ftt) = _ ∨ (if _ then (0 : BitVec 3) else _) = 0
    cases s.freeBool .moveFtt <;> simp
  · have hr : ∀ w, ans.result ≠ .move w := fun w h => hmove ⟨w, h⟩
    rw [State.finishEntry_disabled s rd [] hr ht]
    have hw := (s.setFsr (s.completedFsr ans.texc)).writeResult_written rd hr
    obtain ⟨-, -, hmode, -, hfsr⟩ := (s.setFsr (s.completedFsr ans.texc)).writeResult_cases rd ans.result
    generalize hu : (s.setFsr (s.completedFsr ans.texc)).writeResult rd ans.result = u at hw hmode hfsr
    have hkept : FsrControlKept s u ∧ u.fpu.fsr.ftt = 0 ∧ u.fpu.fsr.aexc = (s.completedFsr ans.texc).aexc ∧
        u.fpu.fsr.cexc = (s.completedFsr ans.texc).cexc := by
      unfold FsrControlKept
      rw [hfsr]
      exact ⟨⟨rfl, rfl, rfl, rfl, rfl⟩, rfl, rfl, rfl⟩
    obtain ⟨hcontrol, hftt, haexc, hcexc⟩ := hkept
    refine ⟨rfl, hmode, ?_, hcontrol, fun _ => ⟨hftt, haexc, hcexc⟩⟩
    cases hres : ans.result with
    | move w => exact absurd hres (hr w)
    | _ => rw [hres] at hw; exact hw

/-- Settles O50: the FPU ready and sequential, an FPop is the completion of its entry (`State.completeFront_single`), which
finishes it (`State.finishEntry_completed`). -/
theorem fpopCompletes : Obligations.FpopCompletes := by
  unfold Obligations.FpopCompletes
  intro s i fn rd rs1 rs2 hf hready hc
  obtain ⟨ans, hans⟩ := fpAnswer_of_fpopOf hf s
  refine ⟨ans, hans, fun ⟨hi, hfin⟩ htem => ?_⟩
  let e : FqEntry := ⟨s.pc, encode i, fn, rd, rs1, rs2⟩
  have hcomplete := s.completeFront_single (e := e) hans
  rw [if_neg hi, if_neg hfin] at hcomplete
  have honly : s.onlyFpuChanged (s.setQueue [e]) := rfl
  obtain ⟨hadv, hregs, hmem, honly⟩ := (honly.trans (State.completeFront_only _)).advance
  obtain ⟨hqueue, hmode, hresult, hcontrol, hfsr⟩ :=
    State.finishEntry_completed (s.entered e) rd (ans := ans) htem
  rw [← hcomplete] at hqueue hmode hresult hcontrol hfsr
  refine ⟨_, ?_, hadv, hregs, hmem, honly, hqueue, hmode.trans hready.2.2.2.1, ?_, hcontrol, hfsr⟩
  · rw [exec_of_fpopOf hf, State.fpop_ready hready hc]
  · cases hres : ans.result <;> rw [hres] at hresult <;> exact hresult

/-- Settles O51: the completion of the entry (`State.completeFront_single`) stops the FPU at it. -/
theorem fpopStops : Obligations.FpopStops := by
  unfold Obligations.FpopStops
  intro s i fn rd rs1 rs2 ans hf hready hc hans
  let e : FqEntry := ⟨s.pc, encode i, fn, rd, rs1, rs2⟩
  have hcomplete := s.completeFront_single (e := e) hans
  have honly : s.onlyFpuChanged (s.setQueue [e]) := rfl
  obtain ⟨hadv, hregs, hmem, honly⟩ := (honly.trans (State.completeFront_only _)).advance
  refine ⟨_, ?_, hadv, hregs, hmem, honly, fun hi => ?_, fun hi hfin => ?_, fun ⟨hi, hfin⟩ hr htem => ?_⟩
  · rw [exec_of_fpopOf hf, State.fpop_ready hready hc]
  · rw [hcomplete, if_pos hi]
    exact s.fpStop_single e 3 _
  · rw [hcomplete, if_neg hi, if_pos hfin]
    exact s.fpStop_single e 2 _
  · rw [hcomplete, if_neg hi, if_neg hfin, (s.entered e).finishEntry_enabled _ _ hr htem]
    exact ⟨s.fpStop_single e 1 _, rfl⟩

/-! ### The moves -/

/-- The bits of the two masks of the sign. -/
theorem sign_masks : ∀ j < 32, (0x80000000#32).getLsbD j = decide (j = 31) ∧ (0x7FFFFFFF#32).getLsbD j = decide (j ≠ 31) := by
  decide

/-- Settles O52: each move is the operand under a mask of the sign (`sign_masks`). -/
theorem movesAreBitOperations : Obligations.MovesAreBitOperations := by
  unfold Obligations.MovesAreBitOperations
  intro s rs1 rs2 a
  refine ⟨fun h => ?_, fun h => ?_, fun h => ?_⟩ <;> obtain rfl := Option.some.inj h
  · exact ⟨rfl, rfl⟩
  · refine ⟨rfl, _, rfl, fun j hj => ?_⟩
    rw [BitVec.getLsbD_xor, (sign_masks j hj).1]
  · refine ⟨rfl, _, rfl, fun j hj => ?_⟩
    rw [BitVec.getLsbD_and, (sign_masks j hj).2]

end Sys2Proof.Machine

/-! ## Comparison and conversion to an integer (O53, O56) -/

namespace Sys2Proof.Machine

/-! ### Values of numbers -/

/-- The sign of a value. -/
def signOf (neg : Bool) : ℚ := if neg then -1 else 1

theorem FpNum.value_finite (neg : Bool) (m : Nat) (e : Int) :
    (FpNum.finite neg m e).value = signOf neg * (m : ℚ) * (2 : ℚ) ^ e := rfl

/-- A number brought to a lower exponent keeps its value. -/
theorem scaled_value (neg : Bool) (m : Nat) {e low : Int} (h : low ≤ e) :
    (scaled neg m e low : ℚ) * 2 ^ low = (FpNum.finite neg m e).value := by
  have hpow : (2 : ℚ) ^ (e - low).toNat * 2 ^ low = 2 ^ e := by
    rw [← zpow_natCast, ← zpow_add₀ (by norm_num), Int.toNat_of_nonneg (by omega), Int.sub_add_cancel]
  rw [FpNum.value_finite, ← hpow]
  cases neg <;> simp [scaled, signOf] <;> ring

/-- A finite number that is no zero has the sign of its value. -/
theorem FpNum.value_finite_sign {neg : Bool} {m : Nat} {e : Int} (hm : m ≠ 0) :
    if neg then (FpNum.finite neg m e).value < 0 else 0 < (FpNum.finite neg m e).value := by
  have hpos : 0 < (m : ℚ) * (2 : ℚ) ^ e := mul_pos (by exact_mod_cast Nat.pos_of_ne_zero hm) (by positivity)
  cases neg <;> simp only [FpNum.value_finite, signOf, mul_assoc] <;> simpa using hpos

/-! ### Comparison -/

theorem compareNumbers_swap (x y : FpNum) : compareNumbers y x = (compareNumbers x y).swap := by
  cases x <;> cases y
  case inf.inf p q => cases p <;> cases q <;> rfl
  case finite.finite na ma ea nb mb eb =>
    simp only [compareNumbers]
    rw [min_comm eb ea]
    exact Std.OrientedCmp.eq_swap
  all_goals simp only [compareNumbers, Ordering.swap]
  all_goals split <;> rfl

/-- Numbers compare as their values. -/
theorem compareNumbers_value {x y : FpNum} (hx : x.isNumber) (hy : y.isNumber) :
    compareNumbers x y = compare x.value y.value := by
  cases x with
  | nan _ | inf _ | unnormal => exact absurd hx id
  | zero p =>
    cases y with
    | nan _ | inf _ | unnormal => exact absurd hy id
    | zero q => exact (compare_eq_iff_eq.2 rfl).symm
    | finite n m e =>
      have hs := FpNum.value_finite_sign (neg := n) (e := e) hy
      cases n
      · exact (compare_lt_iff_lt.2 hs).symm
      · exact (compare_gt_iff_gt.2 hs).symm
  | finite n m e =>
    cases y with
    | nan _ | inf _ | unnormal => exact absurd hy id
    | zero q =>
      have hs := FpNum.value_finite_sign (neg := n) (e := e) hx
      cases n
      · exact (compare_gt_iff_gt.2 hs).symm
      · exact (compare_lt_iff_lt.2 hs).symm
    | finite n' m' e' =>
      have hlow : (0 : ℚ) < 2 ^ min e e' := by positivity
      have hmono : StrictMono fun z : ℤ => (z : ℚ) * 2 ^ min e e' := fun a b h =>
        mul_lt_mul_of_pos_right (by exact_mod_cast h) hlow
      have hcmp := hmono.cmp_map_eq (scaled n m e (min e e')) (scaled n' m' e' (min e e'))
      simp only [cmp_eq_compare, scaled_value n m (min_le_left e e'), scaled_value n' m' (min_le_right e e')] at hcmp
      exact hcmp.symm

/-- fcc of an ordering (R68). -/
def codeOf (o : Ordering) : BitVec 2 :=
  match o with
  | .eq => 0
  | .lt => 1
  | .gt => 2

theorem codeOf_eq_zero (o : Ordering) : codeOf o = 0 ↔ o = .eq := by cases o <;> decide
theorem codeOf_eq_one (o : Ordering) : codeOf o = 1 ↔ o = .lt := by cases o <;> decide
theorem codeOf_eq_two (o : Ordering) : codeOf o = 2 ↔ o = .gt := by cases o <;> decide
theorem codeOf_ne_three (o : Ordering) : codeOf o ≠ 3 := by cases o <;> decide

theorem conditionOf_nan {x y : FpNum} (h : isNan x = true ∨ isNan y = true) : conditionOf x y = 3 :=
  if_pos (by simpa using h)

theorem conditionOf_ordered {x y : FpNum} (hx : isNan x = false) (hy : isNan y = false) :
    conditionOf x y = codeOf (compareNumbers x y) := by
  unfold conditionOf
  rw [hx, hy]
  rfl

theorem FpNum.isNumber.not_nan {x : FpNum} (h : x.isNumber) : isNan x = false := by
  cases x with
  | nan _ => exact absurd h id
  | _ => rfl

/-- Swapping the operands swaps less and greater, and keeps equal and unordered. -/
theorem conditionOf_swap (x y : FpNum) :
    (conditionOf x y = 3 ↔ isNan x = true ∨ isNan y = true) ∧ (conditionOf x y = 1 ↔ conditionOf y x = 2) ∧
      (conditionOf x y = 0 ↔ conditionOf y x = 0) := by
  by_cases hnan : isNan x = true ∨ isNan y = true
  · rw [conditionOf_nan hnan, conditionOf_nan hnan.symm]
    exact ⟨⟨fun _ => hnan, fun _ => rfl⟩, by decide, by decide⟩
  · obtain ⟨hx, hy⟩ : isNan x = false ∧ isNan y = false := by simpa using hnan
    rw [conditionOf_ordered hx hy, conditionOf_ordered hy hx, compareNumbers_swap x y, codeOf_eq_one, codeOf_eq_two,
      codeOf_eq_zero, codeOf_eq_zero]
    refine ⟨⟨fun h => absurd h (codeOf_ne_three _), fun h => absurd h hnan⟩, ?_, ?_⟩ <;> cases compareNumbers x y <;> decide

theorem conditionOf_value {x y : FpNum} (hx : x.isNumber) (hy : y.isNumber) :
    (conditionOf x y = 0 ↔ x.value = y.value) ∧ (conditionOf x y = 1 ↔ x.value < y.value) ∧
      (conditionOf x y = 2 ↔ y.value < x.value) := by
  rw [conditionOf_ordered hx.not_nan hy.not_nan, compareNumbers_value hx hy, codeOf_eq_zero, codeOf_eq_one, codeOf_eq_two]
  exact ⟨compare_eq_iff_eq, compare_lt_iff_lt, compare_gt_iff_gt⟩

theorem conditionOf_inf {y : FpNum} (hy : isNan y = false) (p : Bool) :
    conditionOf (.inf p) y = if y = .inf p then 0 else if p then 1 else 2 := by
  rw [conditionOf_ordered rfl hy]
  cases y with
  | inf q => cases p <;> cases q <;> decide
  | _ => cases p <;> rfl

/-- Nothing of an operation is open with AU = 0 and operands of the architecture. -/
theorem openOperands_defined (subnormal : Bool) : openOperands false false subnormal = none := rfl

/-- What a comparison answers where nothing is open: the condition, and invalid where a NaN asks for it. -/
theorem State.compareAnswer_defined {s : State} (hau : s.fpu.fsr.au = false) (fn : FpFn) (unordered : Bool) (a b : Nat)
    (subnormal : Bool) (x y : FpNum) :
    s.compareAnswer fn unordered a b false subnormal x y =
      ⟨a, b, .fcc (conditionOf x y),
        if (if unordered then isNan x || isNan y else isSignaling x || isSignaling y) then 0b10000#5 else 0⟩ := by
  unfold State.compareAnswer
  rw [hau, openOperands_defined]
  dsimp only
  generalize (if unordered = true then isNan x || isNan y else isSignaling x || isSignaling y) = nv
  cases nv <;> rfl

theorem unnormal_false {x y : FpNum} (hx : x ≠ .unnormal) (hy : y ≠ .unnormal) :
    (decide (x = .unnormal) || decide (y = .unnormal)) = false := by
  simp [hx, hy]

/-- Settles O53: the condition is the ordering of the values (`compareNumbers_value`), and each compare answers with it. -/
theorem comparison : Obligations.Comparison := by
  unfold Obligations.Comparison
  refine ⟨fun x y => ?_, fun x y => conditionOf_value, fun y hy => ⟨conditionOf_inf hy true, conditionOf_inf hy false⟩,
    fun s rs1 rs2 hau c hc => ?_⟩
  · obtain ⟨h3, h1, h0⟩ := conditionOf_swap x y
    exact ⟨h3, h1, h0, fun p q => rfl⟩
  · simp only [List.mem_cons, List.not_mem_nil, or_false] at hc
    rcases hc with rfl | rfl | rfl <;> intro x y hx hy
    · exact ⟨⟨_, congrArg some (State.compareAnswer_defined hau ..), rfl, rfl⟩,
        _, congrArg some (State.compareAnswer_defined hau ..), rfl, rfl⟩
    · exact ⟨⟨_, congrArg some (State.compareAnswer_defined hau ..), rfl, rfl⟩,
        _, congrArg some (State.compareAnswer_defined hau ..), rfl, rfl⟩
    · have hun := unnormal_false hx hy
      have hcompare (fn : FpFn) (unordered : Bool) := State.compareAnswer_defined hau fn unordered
        (s.extended rs1).toNat (s.extended rs2).toNat (subnormalExtended (s.extended rs1) ||
          subnormalExtended (s.extended rs2)) x y
      rw [← hun] at hcompare
      exact ⟨⟨_, congrArg some (hcompare .fcmpx false), rfl, rfl⟩, _, congrArg some (hcompare .fcmpex true), rfl, rfl⟩

/-! ### Truncation -/

/-- The integer below a magnitude, as the conversion computes it, and whether it is the magnitude. -/
theorem floor_mul_zpow (m : Nat) (e : Int) :
    ⌊(m : ℚ) * (2 : ℚ) ^ e⌋ = ((if 0 ≤ e then m * 2 ^ e.toNat else m / 2 ^ (-e).toNat : Nat) : ℤ) ∧
      ((⌊(m : ℚ) * (2 : ℚ) ^ e⌋ : ℚ) ≠ (m : ℚ) * (2 : ℚ) ^ e ↔ ¬ 0 ≤ e ∧ m % 2 ^ (-e).toNat ≠ 0) := by
  by_cases he : 0 ≤ e
  · have hpow : (m : ℚ) * (2 : ℚ) ^ e = ((m * 2 ^ e.toNat : ℕ) : ℚ) := by
      conv_lhs => rw [← Int.toNat_of_nonneg he]
      rw [zpow_natCast]; push_cast; rfl
    rw [hpow, if_pos he, Int.floor_natCast]
    simp [he]
  · have hpow : (m : ℚ) * (2 : ℚ) ^ e = (m : ℚ) / ((2 ^ (-e).toNat : ℕ) : ℚ) := by
      have hneg : e = -((-e).toNat : ℤ) := by omega
      conv_lhs => rw [hneg]
      rw [zpow_neg, zpow_natCast]; push_cast; rfl
    have hfloor : ⌊(m : ℚ) / ((2 ^ (-e).toNat : ℕ) : ℚ)⌋ = ((m / 2 ^ (-e).toNat : ℕ) : ℤ) := by
      rw [← Int.cast_natCast (R := ℚ) m, Rat.floor_intCast_div_natCast]
      rfl
    rw [hpow, if_neg he, hfloor]
    refine ⟨rfl, ?_⟩
    have hd : ((2 ^ (-e).toNat : ℕ) : ℚ) ≠ 0 := by positivity
    have hdvd := Nat.dvd_iff_mod_eq_zero (m := 2 ^ (-e).toNat) (n := m)
    rw [and_iff_right he, Ne, Ne, eq_div_iff hd, ← hdvd, not_iff_not]
    constructor
    · intro h
      exact ⟨m / 2 ^ (-e).toNat, by rw [Nat.mul_comm]; exact_mod_cast h.symm⟩
    · intro h
      exact_mod_cast Nat.div_mul_cancel h

/-- The conversion of a finite number: the integer below the magnitude with the number's sign, where it fits a word. -/
theorem truncated_finite (neg : Bool) (m : Nat) (e : Int) :
    let x : ℚ := (m : ℚ) * (2 : ℚ) ^ e
    let v : Int := if neg then -⌊x⌋ else ⌊x⌋
    truncated (.finite neg m e) =
      if -(2 ^ 31) ≤ v ∧ v < 2 ^ 31 then some (BitVec.ofInt 32 v, decide ((⌊x⌋ : ℚ) ≠ x)) else none := by
  obtain ⟨hfloor, hlost⟩ := floor_mul_zpow m e
  have hdec : (if 0 ≤ e then false else decide (m % 2 ^ (-e).toNat ≠ 0)) =
      decide ((⌊(m : ℚ) * (2 : ℚ) ^ e⌋ : ℚ) ≠ (m : ℚ) * (2 : ℚ) ^ e) := by
    rw [Bool.eq_iff_iff, decide_eq_true_iff, hlost]
    by_cases he : 0 ≤ e <;> simp [he]
  simp only [truncated]
  rw [hfloor] at hdec ⊢
  rw [hdec]

theorem toInt_ofInt_word {v : Int} (h : -(2 ^ 31) ≤ v ∧ v < 2 ^ 31) : (BitVec.ofInt 32 v).toInt = v := by
  rw [BitVec.toInt_ofInt, Int.bmod_eq_of_le] <;> omega

/-- What a conversion to an integer answers where nothing is open: what truncation gives, or any word and invalid. -/
theorem State.toInteger_defined {s : State} (hau : s.fpu.fsr.au = false) (fn : FpFn) (a : Nat) (subnormal : Bool)
    (x : FpNum) : ∃ r w, s.toInteger fn a false subnormal x = r ∧ r.result = .single w ∧
      (∀ v lost, truncated x = some (v, lost) → w = v ∧ r.texc = if lost then 0b00001#5 else 0) ∧
      (truncated x = none → r.texc = 0b10000#5) := by
  unfold State.toInteger
  rw [hau, openOperands_defined]
  dsimp only
  cases truncated x with
  | none => exact ⟨_, _, rfl, rfl, fun v lost h => absurd h (by simp), fun _ => rfl⟩
  | some r =>
    obtain ⟨w, lost⟩ := r
    refine ⟨_, _, rfl, rfl, fun v l h => ?_, fun h => absurd h (by simp)⟩
    obtain ⟨rfl, rfl⟩ := Prod.mk.inj (Option.some.inj h)
    cases lost <;> exact ⟨rfl, rfl⟩

/-- Settles O56: truncation is the floor of the magnitude (`floor_mul_zpow`) under the sign, and each conversion answers it. -/
theorem truncationTowardZero : Obligations.TruncationTowardZero := by
  unfold Obligations.TruncationTowardZero
  refine ⟨fun neg m e hm => ?_, fun s rs1 rs2 hau c hc => ?_, fun p => rfl, fun x hx => ?_⟩
  · rw [truncated_finite]
    dsimp only
    generalize (if neg then -⌊(m : ℚ) * (2 : ℚ) ^ e⌋ else ⌊(m : ℚ) * (2 : ℚ) ^ e⌋) = v
    by_cases hv : -(2 ^ 31) ≤ v ∧ v < 2 ^ 31
    · rw [if_pos hv]
      refine ⟨⟨fun h => absurd h (by simp), fun h => ?_⟩, fun w lost h => ?_⟩
      · omega
      · obtain ⟨rfl, rfl⟩ := Prod.mk.inj (Option.some.inj h)
        exact ⟨toInt_ofInt_word hv, decide_eq_true_iff⟩
    · rw [if_neg hv]
      exact ⟨⟨fun _ => by omega, fun _ => rfl⟩, fun w lost h => absurd h (by simp)⟩
  · have answers (fn : FpFn) (a : Nat) (subnormal : Bool) (x : FpNum) := State.toInteger_defined hau fn a subnormal x
    simp only [List.mem_cons, List.not_mem_nil, or_false] at hc
    rcases hc with rfl | rfl | rfl <;> intro x hx
    · obtain ⟨r, w, hr, h⟩ := answers .fstoi (s.freg rs2).toNat (subnormalSingle (s.freg rs2)) x
      exact ⟨r, w, congrArg some hr, h⟩
    · obtain ⟨r, w, hr, h⟩ := answers .fdtoi (s.double rs2).toNat (subnormalDouble (s.double rs2)) x
      exact ⟨r, w, congrArg some hr, h⟩
    · obtain ⟨r, w, hr, h⟩ := answers .fxtoi (s.extended rs2).toNat (subnormalExtended (s.extended rs2)) x
      have hun : decide (x = .unnormal) = false := decide_eq_false hx
      rw [← hun] at hr
      exact ⟨r, w, congrArg some hr, h⟩
  · rcases hx with hx | ⟨p, rfl⟩
    · cases x with
      | nan _ => rfl
      | _ => cases hx
    · rfl

end Sys2Proof.Machine

/-! ## Correct rounding (O55, O60): the numbers of a format

A magnitude y > 0 between two powers of two is rounded to a multiple of the unit that the format has there; what that
multiple is to y (`RoundsTo`) makes it the rounding of y in the format. -/

namespace Sys2Proof.Machine

/-! ### Directions and signs -/

/-- The sign of a number, as a factor. -/
def sgn (neg : Bool) : ℝ := if neg then -1 else 1

@[simp] theorem sgn_true : sgn true = -1 := rfl
@[simp] theorem sgn_false : sgn false = 1 := rfl

theorem abs_sgn_mul (neg : Bool) (v : ℝ) : |sgn neg * v| = |v| := by cases neg <;> simp

theorem FpNum.value_finite_real (neg : Bool) (m : Nat) (e : Int) :
    ((FpNum.finite neg m e).value : ℝ) = sgn neg * ((m : ℝ) * (2 : ℝ) ^ e) := by
  rw [FpNum.value_finite]
  cases neg <;> simp [signOf]

/-- The direction leads toward zero for a sign, or away from it (R61). -/
def towardZero (rd : BitVec 2) (neg : Bool) : Prop := rd = 1 ∨ (rd = 2 ∧ neg = true) ∨ (rd = 3 ∧ neg = false)
def awayFromZero (rd : BitVec 2) (neg : Bool) : Prop := (rd = 2 ∧ neg = false) ∨ (rd = 3 ∧ neg = true)

/-- z rounds to the integer m in the direction, for the sign. -/
structure RoundsTo (rd : BitVec 2) (neg : Bool) (z : ℝ) (m : Nat) : Prop where
  nearest : rd = 0 → |z - m| ≤ 1 / 2 ∧ (|z - m| = 1 / 2 → m % 2 = 0)
  down : towardZero rd neg → m ≤ z ∧ z < m + 1
  up : awayFromZero rd neg → z ≤ m ∧ m < z + 1

theorem direction_cases (rd : BitVec 2) (neg : Bool) : rd = 0 ∨ towardZero rd neg ∨ awayFromZero rd neg := by
  unfold towardZero awayFromZero
  revert rd neg
  decide

/-- An integer rounds to itself. -/
theorem RoundsTo.self (rd : BitVec 2) (neg : Bool) (m : Nat) : RoundsTo rd neg (m : ℝ) m := by
  refine ⟨fun _ => ?_, fun _ => ⟨le_refl _, by linarith⟩, fun _ => ⟨le_refl _, by linarith⟩⟩
  rw [sub_self, abs_zero]
  norm_num

section RoundsTo
variable {rd : BitVec 2} {neg : Bool} {z : ℝ} {m : Nat} (h : RoundsTo rd neg z m)
include h

/-- The rounding is less than one away. -/
theorem RoundsTo.near : z < m + 1 ∧ (m : ℝ) < z + 1 := by
  rcases direction_cases rd neg with hd | hd | hd
  · have := abs_le.1 (h.nearest hd).1
    constructor <;> linarith
  · have := h.down hd
    constructor <;> linarith
  · have := h.up hd
    constructor <;> linarith

/-- An integer at or above z is at or above the rounding, and one at or below it below. -/
theorem RoundsTo.le_of_le {k : Nat} (hk : z ≤ k) : m ≤ k := by
  have : (m : ℝ) < (k + 1 : ℕ) := by push_cast; linarith [h.near.2]
  exact Nat.lt_succ_iff.1 (by exact_mod_cast this)

theorem RoundsTo.ge_of_ge {k : Nat} (hk : k ≤ z) : k ≤ m := by
  have : (k : ℝ) < (m + 1 : ℕ) := by push_cast; linarith [h.near.1]
  exact Nat.lt_succ_iff.1 (by exact_mod_cast this)

/-- No integer is closer to z than the rounding in the nearest direction; another one as close makes a tie. -/
theorem RoundsTo.closest (hrd : rd = 0) (j : ℤ) :
    |z - m| ≤ |z - j| ∧ (j ≠ m → |z - m| = |z - j| → |z - m| = 1 / 2) := by
  obtain ⟨hnear, -⟩ := h.nearest hrd
  by_cases hj : j = m
  · subst hj
    exact ⟨le_refl _, fun h => absurd rfl h⟩
  · have hdist : (1 : ℝ) ≤ |(j : ℝ) - m| := by exact_mod_cast Int.one_le_abs (sub_ne_zero.2 hj)
    have htri : |(j : ℝ) - m| ≤ |z - m| + |z - j| := by
      have := abs_sub_le (j : ℝ) z m
      rw [abs_sub_comm (j : ℝ) z] at this
      linarith
    exact ⟨by linarith, fun _ he => le_antisymm hnear (by linarith)⟩

end RoundsTo

/-! ### What a format holds -/

/-- The weight of the last of p bits below the first. -/
theorem two_zpow_add_nat (q : ℤ) (n : Nat) : (2 : ℝ) ^ (q + n) = 2 ^ n * 2 ^ q := by
  rw [zpow_add₀ (by norm_num), zpow_natCast, mul_comm]

theorem two_zpow_le {a b : ℤ} : (2 : ℝ) ^ a ≤ 2 ^ b ↔ a ≤ b := zpow_le_zpow_iff_right₀ (by norm_num)
theorem two_zpow_lt {a b : ℤ} : (2 : ℝ) ^ a < 2 ^ b ↔ a < b := zpow_lt_zpow_iff_right₀ (by norm_num)
theorem two_zpow_pos (a : ℤ) : (0 : ℝ) < 2 ^ a := by positivity

theorem FpFormat.holds.neg {fmt : FpFormat} {x : ℝ} (h : fmt.holds x) : fmt.holds (-x) := by
  obtain ⟨m, q, hm, hq, rfl⟩ := h
  exact ⟨-m, q, by rwa [abs_neg], hq, by push_cast; ring⟩

theorem FpFormat.holdsEven.neg {fmt : FpFormat} {x : ℝ} (h : fmt.holdsEven x) : fmt.holdsEven (-x) := by
  obtain ⟨m, q, hm, hq, rfl⟩ := h
  exact ⟨-m, q, by rwa [abs_neg], hq, by push_cast; ring⟩

/-- A number times a power of two, as a number with one more bit below. -/
theorem mul_two_zpow_succ (a : ℝ) (q : ℤ) : a * (2 : ℝ) ^ (q + 1) = 2 * a * 2 ^ q := by
  rw [zpow_add_one₀ (by norm_num)]; ring

section Format
variable {fmt : FpFormat}

/-- A number of at most p bits, or the power of two above them, is held. -/
theorem FpFormat.holds_of_le {m : Nat} {q : ℤ} (hp : 2 ≤ fmt.precision) (hm : m ≤ 2 ^ fmt.precision)
    (hq : fmt.emin - ((fmt.precision : ℤ) - 1) ≤ q) : fmt.holds ((m : ℝ) * 2 ^ q) := by
  rcases Nat.lt_or_eq_of_le hm with hlt | rfl
  · refine ⟨m, q, ?_, hq, rfl⟩
    rw [Nat.abs_cast]
    exact_mod_cast hlt
  · refine ⟨2 ^ (fmt.precision - 1), q + 1, ?_, by omega, ?_⟩
    · rw [abs_of_pos (by positivity)]
      exact pow_lt_pow_right₀ (by norm_num) (by omega)
    · rw [mul_two_zpow_succ]
      push_cast
      rw [← pow_succ', Nat.sub_add_cancel (by omega)]

/-- An even multiple is held with a last bit 0. -/
theorem FpFormat.holdsEven_of_even {m : Nat} {q : ℤ} (hp : 2 ≤ fmt.precision) (hm : m ≤ 2 ^ fmt.precision)
    (hq : fmt.emin - ((fmt.precision : ℤ) - 1) ≤ q) (heven : m % 2 = 0) : fmt.holdsEven ((m : ℝ) * 2 ^ q) := by
  have hpow : 2 ^ fmt.precision = 2 * 2 ^ (fmt.precision - 1) := by
    rw [← pow_succ', Nat.sub_add_cancel (by omega)]
  obtain ⟨k, rfl⟩ : ∃ k, m = 2 * k := ⟨m / 2, by omega⟩
  have hk : k ≤ 2 ^ (fmt.precision - 1) := by omega
  rcases Nat.lt_or_eq_of_le hk with hlt | rfl
  · refine ⟨k, q + 1, ?_, by omega, ?_⟩
    · rw [Nat.abs_cast]; exact_mod_cast hlt
    · rw [mul_two_zpow_succ]; push_cast; ring
  · refine ⟨2 ^ (fmt.precision - 2), q + 1 + 1, ?_, by omega, ?_⟩
    · rw [abs_of_pos (by positivity)]
      exact pow_lt_pow_right₀ (by norm_num) (by omega)
    · have hhalf : (2 : ℝ) * 2 ^ (fmt.precision - 2) = 2 ^ (fmt.precision - 1) := by
        rw [← pow_succ']; congr 1; omega
      rw [mul_two_zpow_succ, mul_two_zpow_succ]
      push_cast
      rw [hhalf]

/-- Where the unit is that of the exponent e, or of the smallest one, a held number is a multiple of the unit, or it is
smaller than 2^e, itself a multiple. -/
theorem FpFormat.holds_on_grid {e q : ℤ} (hq : q = max e fmt.emin - ((fmt.precision : ℤ) - 1)) {w : ℝ} (hw : fmt.holds w) :
    (∃ j : ℤ, w = j * 2 ^ q) ∨ (|w| < 2 ^ e ∧ q = e - ((fmt.precision : ℤ) - 1)) := by
  obtain ⟨m, q', hm, hq', rfl⟩ := hw
  rcases le_or_gt q q' with h | h
  · refine .inl ⟨m * 2 ^ (q' - q).toNat, ?_⟩
    have hsplit : q' = q + ((q' - q).toNat : ℤ) := by omega
    conv_lhs => rw [hsplit, two_zpow_add_nat]
    push_cast
    ring
  · refine .inr ⟨?_, by omega⟩
    have hm' : |(m : ℝ)| < 2 ^ fmt.precision := by exact_mod_cast hm
    rw [abs_mul, abs_of_pos (two_zpow_pos q')]
    calc |(m : ℝ)| * 2 ^ q' < 2 ^ fmt.precision * 2 ^ q' := mul_lt_mul_of_pos_right hm' (two_zpow_pos q')
      _ = 2 ^ (q' + fmt.precision) := (two_zpow_add_nat q' _).symm
      _ ≤ 2 ^ e := two_zpow_le.2 (by omega)

/-! ### Rounding a magnitude -/

/-- v is the rounding of a magnitude y, for a sign. -/
structure FpFormat.RoundsMagnitude (fmt : FpFormat) (rd : BitVec 2) (neg : Bool) (y v : ℝ) : Prop where
  held : fmt.holds v
  nonneg : 0 ≤ v
  nearest : rd = 0 → ∀ w, fmt.holds w → |y - v| ≤ |y - w| ∧ (w ≠ v → |y - v| = |y - w| → fmt.holdsEven v)
  down : towardZero rd neg → v ≤ y ∧ ∀ w, fmt.holds w → w ≤ y → w ≤ v
  up : awayFromZero rd neg → y ≤ v ∧ ∀ w, fmt.holds w → y ≤ w → v ≤ w

/-- A positive number is rounded as its magnitude, a negative one as the mirror image. -/
theorem FpFormat.RoundsMagnitude.rounds {rd : BitVec 2} {neg : Bool} {y v : ℝ} (h : fmt.RoundsMagnitude rd neg y v)
    (hy : 0 ≤ y) : fmt.rounds rd (sgn neg * y) (sgn neg * v) := by
  have hv := h.nonneg
  cases neg with
  | false =>
    simp only [sgn_false, one_mul]
    refine ⟨h.held, h.nearest, fun hrd => ?_, fun hrd => h.up (.inl ⟨hrd, rfl⟩), fun hrd => h.down (.inr (.inr ⟨hrd, rfl⟩))⟩
    obtain ⟨hle, hmax⟩ := h.down (.inl hrd)
    rw [abs_of_nonneg hv, abs_of_nonneg hy]
    refine ⟨hle, fun w hw hwy => ?_⟩
    have hwv := hmax w hw (le_trans (le_abs_self w) hwy)
    rw [abs_of_nonneg (by linarith), abs_of_nonneg (by linarith)]
    linarith
  | true =>
    simp only [sgn_true, neg_one_mul]
    have hdist : ∀ w, |-y - w| = |y - -w| := fun w => by rw [← abs_neg]; congr 1; ring
    refine ⟨h.held.neg, fun hrd w hw => ?_, fun hrd => ?_, fun hrd => ?_, fun hrd => ?_⟩
    · obtain ⟨hle, htie⟩ := h.nearest hrd (-w) hw.neg
      rw [hdist, hdist, neg_neg]
      exact ⟨hle, fun hne he => (htie (fun hw => hne (by rw [← hw, neg_neg])) he).neg⟩
    · obtain ⟨hle, hmax⟩ := h.down (.inl hrd)
      rw [abs_neg, abs_neg, abs_of_nonneg hv, abs_of_nonneg hy]
      refine ⟨hle, fun w hw hwy => ?_⟩
      have hwv := hmax (-w) hw.neg (le_trans (neg_le_abs w) hwy)
      rw [hdist, hdist, neg_neg, abs_of_nonneg (by linarith), abs_of_nonneg (by linarith)]
      linarith
    · obtain ⟨hle, hmax⟩ := h.down (.inr (.inl ⟨hrd, rfl⟩))
      refine ⟨by linarith, fun w hw hwy => ?_⟩
      linarith [hmax (-w) hw.neg (by linarith)]
    · obtain ⟨hle, hmin⟩ := h.up (.inr ⟨hrd, rfl⟩)
      refine ⟨by linarith, fun w hw hwy => ?_⟩
      linarith [hmin (-w) hw.neg (by linarith)]

end Format

section Grid
variable {fmt : FpFormat} (hp : 2 ≤ fmt.precision) {e q : ℤ} (hq : q = max e fmt.emin - ((fmt.precision : ℤ) - 1))
include hp

/-- The power of two of the exponent as a multiple of the unit of its p bits. -/
theorem binade_on_grid (he : q = e - ((fmt.precision : ℤ) - 1)) :
    ((2 ^ (fmt.precision - 1) : ℕ) : ℝ) * 2 ^ q = 2 ^ e := by
  push_cast
  rw [← two_zpow_add_nat, he]
  congr 1
  omega

variable {rd : BitVec 2} {neg : Bool} {z : ℝ} {m : Nat} (h : RoundsTo rd neg z m) (hlow : (2 : ℝ) ^ e ≤ z * 2 ^ q)
include hlow

theorem binade_le (he : q = e - ((fmt.precision : ℤ) - 1)) : ((2 ^ (fmt.precision - 1) : ℕ) : ℝ) ≤ z := by
  rw [← binade_on_grid hp he] at hlow
  exact le_of_mul_le_mul_right hlow (two_zpow_pos q)

include hq h

/-- No number of the format is closer to the magnitude than the nearest multiple; another one as close makes a tie. -/
theorem RoundsTo.nearest_held (hm : m ≤ 2 ^ fmt.precision) (hrd : rd = 0) {w : ℝ} (hw : fmt.holds w) :
    |z * 2 ^ q - m * 2 ^ q| ≤ |z * 2 ^ q - w| ∧
      (w ≠ m * 2 ^ q → |z * 2 ^ q - m * 2 ^ q| = |z * 2 ^ q - w| → fmt.holdsEven (m * 2 ^ q)) := by
  have hunit := two_zpow_pos q
  have hdist : ∀ a b : ℝ, |a * 2 ^ q - b * 2 ^ q| = |a - b| * 2 ^ q := fun a b => by
    rw [← sub_mul, abs_mul, abs_of_pos hunit]
  rcases FpFormat.holds_on_grid hq hw with ⟨j, rfl⟩ | ⟨hsmall, he⟩
  · obtain ⟨hle, htie⟩ := h.closest hrd j
    rw [hdist, hdist]
    refine ⟨mul_le_mul_of_nonneg_right hle hunit.le, fun hne heq => ?_⟩
    have hj : j ≠ m := fun hj => hne (by rw [hj]; norm_cast)
    exact FpFormat.holdsEven_of_even hp hm (by omega) ((h.nearest hrd).2 (htie hj (mul_right_cancel₀ hunit.ne' heq)))
  · have hstrict : |z * 2 ^ q - m * 2 ^ q| < |z * 2 ^ q - w| := by
      have hclose := (h.closest hrd ((2 ^ (fmt.precision - 1) : ℕ) : ℤ)).1
      rw [Int.cast_natCast, abs_of_nonneg (sub_nonneg.2 (binade_le hp hlow he))] at hclose
      calc |z * 2 ^ q - m * 2 ^ q| = |z - m| * 2 ^ q := hdist _ _
        _ ≤ (z - ((2 ^ (fmt.precision - 1) : ℕ) : ℝ)) * 2 ^ q := mul_le_mul_of_nonneg_right hclose hunit.le
        _ = z * 2 ^ q - 2 ^ e := by rw [sub_mul, binade_on_grid hp he]
        _ < z * 2 ^ q - w := by linarith [le_abs_self w]
        _ ≤ |z * 2 ^ q - w| := le_abs_self _
    exact ⟨hstrict.le, fun _ heq => absurd heq hstrict.ne⟩

/-- No number of the format lies between the multiple below the magnitude and the magnitude. -/
theorem RoundsTo.le_of_held (hd : towardZero rd neg) {w : ℝ} (hw : fmt.holds w) (hwy : w ≤ z * 2 ^ q) : w ≤ m * 2 ^ q := by
  have hunit := two_zpow_pos q
  rcases FpFormat.holds_on_grid hq hw with ⟨j, rfl⟩ | ⟨hsmall, he⟩
  · have hj : (j : ℝ) < (m : ℝ) + 1 := lt_of_le_of_lt (le_of_mul_le_mul_right hwy hunit) (h.down hd).2
    have hj' : j ≤ (m : ℤ) := Int.lt_add_one_iff.1 (by exact_mod_cast hj)
    exact mul_le_mul_of_nonneg_right (by exact_mod_cast hj') hunit.le
  · have hmlow : ((2 ^ (fmt.precision - 1) : ℕ) : ℝ) ≤ m := by exact_mod_cast h.ge_of_ge (binade_le hp hlow he)
    calc w ≤ 2 ^ e := (le_abs_self w).trans hsmall.le
      _ = ((2 ^ (fmt.precision - 1) : ℕ) : ℝ) * 2 ^ q := (binade_on_grid hp he).symm
      _ ≤ m * 2 ^ q := mul_le_mul_of_nonneg_right hmlow hunit.le

omit hp in
/-- Nor between the magnitude and the multiple above it. -/
theorem RoundsTo.ge_of_held (hd : awayFromZero rd neg) {w : ℝ} (hw : fmt.holds w) (hwy : z * 2 ^ q ≤ w) :
    m * 2 ^ q ≤ w := by
  have hunit := two_zpow_pos q
  rcases FpFormat.holds_on_grid hq hw with ⟨j, rfl⟩ | ⟨hsmall, he⟩
  · have hj : (m : ℝ) < (j : ℝ) + 1 :=
      lt_of_lt_of_le (h.up hd).2 (by linarith [le_of_mul_le_mul_right hwy hunit])
    have hj' : (m : ℤ) ≤ j := Int.lt_add_one_iff.1 (by exact_mod_cast hj)
    exact mul_le_mul_of_nonneg_right (by exact_mod_cast hj') hunit.le
  · exact absurd (hlow.trans (hwy.trans (le_abs_self w))) (not_le_of_gt hsmall)

/-- A magnitude in the unit of its exponent, rounded to an integer, is rounded in the format; the integer has p bits, or is the
power of two above them. -/
theorem RoundsTo.roundsMagnitude (hhigh : z * 2 ^ q < (2 : ℝ) ^ (e + 1)) :
    fmt.RoundsMagnitude rd neg (z * 2 ^ q) (m * 2 ^ q) ∧ m ≤ 2 ^ fmt.precision ∧
      (q = e - ((fmt.precision : ℤ) - 1) → 2 ^ (fmt.precision - 1) ≤ m) := by
  have hunit := two_zpow_pos q
  have hzp : z ≤ (2 ^ fmt.precision : ℕ) := by
    have hz : z * 2 ^ q ≤ 2 ^ fmt.precision * 2 ^ q := by
      rw [← two_zpow_add_nat]
      exact hhigh.le.trans (two_zpow_le.2 (by omega))
    push_cast
    exact le_of_mul_le_mul_right hz hunit
  have hm := h.le_of_le hzp
  exact ⟨⟨FpFormat.holds_of_le hp hm (by omega), by positivity, fun hrd w hw => h.nearest_held hp hq hlow hm hrd hw,
    fun hd => ⟨mul_le_mul_of_nonneg_right (h.down hd).1 hunit.le, fun w hw hwy => h.le_of_held hp hq hlow hd hw hwy⟩,
    fun hd => ⟨mul_le_mul_of_nonneg_right (h.up hd).1 hunit.le, fun w hw hwy => h.ge_of_held hq hlow hd hw hwy⟩⟩, hm,
    fun he => h.ge_of_ge (binade_le hp hlow he)⟩

end Grid

end Sys2Proof.Machine

/-! ## Correct rounding (O55, O60): what rounding delivers

The rounding of x is one number (`FpFormat.rounds.unique`); the model's mantissa compares with the multiples of the unit as the
exact magnitude does (`StandsFor`), so that the model rounds the magnitude (`roundTo_delivers`). -/

namespace Sys2Proof.Machine

/-! ### The rounding of a number is one -/

section Unique
variable {fmt : FpFormat}

theorem holds_between_of_le {m n q q' : ℤ} (hm : |m| < 2 ^ (fmt.precision - 1)) (hp : 2 ≤ fmt.precision)
    (hq : fmt.emin - ((fmt.precision : ℤ) - 1) + 1 ≤ q) (hqq : q ≤ q') (hlt : (m : ℝ) * 2 ^ q < n * 2 ^ q') :
    ∃ w, fmt.holds w ∧ (m : ℝ) * 2 ^ q < w ∧ w < n * 2 ^ q' := by
  have hhalf := two_zpow_pos (q - 1)
  have hstep : ∀ a : ℝ, a * 2 ^ q = 2 * a * 2 ^ (q - 1) := fun a => by
    rw [← mul_two_zpow_succ, sub_add_cancel]
  have hn : (n : ℝ) * 2 ^ q' = ((n * 2 ^ (q' - q).toNat : ℤ) : ℝ) * 2 ^ q := by
    have hsplit : q' = q + ((q' - q).toNat : ℤ) := by omega
    conv_lhs => rw [hsplit, two_zpow_add_nat]
    push_cast
    ring
  rw [hn] at hlt ⊢
  have hint : m < n * 2 ^ (q' - q).toNat := by exact_mod_cast lt_of_mul_lt_mul_right hlt (two_zpow_pos q).le
  generalize n * 2 ^ (q' - q).toNat = k at hint
  refine ⟨((2 * m + 1 : ℤ) : ℝ) * 2 ^ (q - 1), ⟨2 * m + 1, q - 1, ?_, by omega, rfl⟩, ?_, ?_⟩
  · have hpow : (2 : ℤ) ^ fmt.precision = 2 * 2 ^ (fmt.precision - 1) := by
      rw [← pow_succ', Nat.sub_add_cancel (by omega)]
    rw [abs_lt] at hm ⊢
    omega
  · rw [hstep]
    refine mul_lt_mul_of_pos_right ?_ hhalf
    push_cast
    linarith
  · rw [hstep]
    refine mul_lt_mul_of_pos_right ?_ hhalf
    have hk : (m : ℝ) + 1 ≤ k := by exact_mod_cast hint
    push_cast
    linarith

/-- Between two numbers whose last bit is 0 lies another one of the format. -/
theorem FpFormat.holdsEven.between (hp : 2 ≤ fmt.precision) {u v : ℝ} (hu : fmt.holdsEven u) (hv : fmt.holdsEven v)
    (hlt : u < v) : ∃ w, fmt.holds w ∧ u < w ∧ w < v := by
  obtain ⟨m, q, hm, hq, rfl⟩ := hu
  obtain ⟨n, q', hn, hq', rfl⟩ := hv
  rcases le_total q q' with h | h
  · exact holds_between_of_le hm hp hq h hlt
  · obtain ⟨w, hw, h1, h2⟩ := holds_between_of_le (m := -n) (n := -m) (by rwa [abs_neg]) hp hq' h
      (by push_cast; linarith)
    push_cast at h1 h2
    exact ⟨-w, hw.neg, by linarith, by linarith⟩

variable {rd : BitVec 2} {x u v : ℝ}

theorem direction_eq (rd : BitVec 2) : rd = 0 ∨ rd = 1 ∨ rd = 2 ∨ rd = 3 := by
  revert rd
  decide

theorem FpFormat.rounds.not_below (hp : 2 ≤ fmt.precision) (hu : fmt.rounds rd x u) (hv : fmt.rounds rd x v) : ¬ u < v := by
  intro hlt
  obtain ⟨hheldu, u0, u1, u2, u3⟩ := hu
  obtain ⟨hheldv, v0, v1, v2, v3⟩ := hv
  rcases direction_eq rd with hrd | hrd | hrd | hrd
  · obtain ⟨hle1, heven1⟩ := u0 hrd v hheldv
    obtain ⟨hle2, heven2⟩ := v0 hrd u hheldu
    have heq := le_antisymm hle1 hle2
    obtain ⟨w, hw, huw, hwv⟩ := FpFormat.holdsEven.between hp (heven1 hlt.ne' heq) (heven2 hlt.ne heq.symm) hlt
    rcases le_total w x with h | h
    · have hclose := (u0 hrd w hw).1
      rw [abs_of_nonneg (by linarith), abs_of_nonneg (by linarith)] at hclose
      linarith
    · have hclose := (v0 hrd w hw).1
      rw [abs_of_nonpos (by linarith), abs_of_nonpos (by linarith)] at hclose
      linarith
  · obtain ⟨hu, hcu⟩ := u1 hrd
    obtain ⟨hv, hcv⟩ := v1 hrd
    have heq := le_antisymm (hcu v hheldv hv) (hcv u hheldu hu)
    rcases abs_eq_abs.1 heq with h | h
    · linarith
    · rcases le_total 0 x with h0 | h0
      · rw [abs_of_nonneg h0] at hv
        linarith [le_abs_self v]
      · rw [abs_of_nonpos h0] at hu
        linarith [neg_le_abs u]
  · linarith [(v2 hrd).2 u hheldu (u2 hrd).1]
  · linarith [(u3 hrd).2 v hheldv (v3 hrd).1]

/-- A number has one rounding. -/
theorem FpFormat.rounds.unique (hp : 2 ≤ fmt.precision) (hu : fmt.rounds rd x u) (hv : fmt.rounds rd x v) : u = v :=
  le_antisymm (not_lt.1 (hv.not_below hp hu)) (not_lt.1 (hu.not_below hp hv))

/-- A number of the format is its own rounding. -/
theorem FpFormat.rounds.eq_of_holds (h : fmt.rounds rd x v) (hx : fmt.holds x) : v = x := by
  obtain ⟨hheld, h0, h1, h2, h3⟩ := h
  rcases direction_eq rd with hrd | hrd | hrd | hrd
  · have hle := (h0 hrd x hx).1
    rw [sub_self, abs_zero] at hle
    exact (sub_eq_zero.1 (abs_nonpos_iff.1 hle)).symm
  · have hle := (h1 hrd).2 x hx le_rfl
    rw [sub_self, abs_zero] at hle
    exact (sub_eq_zero.1 (abs_nonpos_iff.1 hle)).symm
  · exact le_antisymm ((h2 hrd).2 x hx le_rfl) (h2 hrd).1
  · exact le_antisymm (h3 hrd).1 ((h3 hrd).2 x hx le_rfl)

/-- A number no larger than one of the format rounds to one no larger. -/
theorem FpFormat.rounds.abs_le_of_holds (h : fmt.rounds rd x v) {l : ℝ} (hl : fmt.holds l) (hx : |x| ≤ l) : |v| ≤ l := by
  obtain ⟨hheld, h0, h1, h2, h3⟩ := h
  obtain ⟨hxl, hxu⟩ := abs_le.1 hx
  rw [abs_le]
  rcases direction_eq rd with hrd | hrd | hrd | hrd
  · have hup := (h0 hrd l hl).1
    have hdown := (h0 hrd (-l) hl.neg).1
    rw [abs_of_nonpos (by linarith : x - l ≤ 0)] at hup
    rw [abs_of_nonneg (by linarith : 0 ≤ x - -l)] at hdown
    constructor <;> linarith [le_abs_self (x - v), neg_le_abs (x - v)]
  · exact abs_le.1 ((h1 hrd).1.trans hx)
  · exact ⟨hxl.trans (h2 hrd).1, (h2 hrd).2 l hl hxu⟩
  · exact ⟨(h3 hrd).2 (-l) hl.neg hxl, (h3 hrd).1.trans hxu⟩

end Unique

/-! ### A mantissa in the place of the exact magnitude -/

/-- The multiples of 2^k are to y as they are to the mantissa. -/
def ComparesAs (k : Nat) (mant : Nat) (y : ℝ) : Prop :=
  ∀ j : ℤ, 2 ^ k ∣ j → (y ≤ j ↔ (mant : ℤ) ≤ j) ∧ (j ≤ y ↔ j ≤ (mant : ℤ))

/-- A mantissa stands for an exact magnitude: it is it; or it is long and odd, and the magnitude is between its neighbours. -/
def StandsFor (mant : Nat) (y : ℝ) : Prop :=
  y = mant ∨ (mant % 2 = 1 ∧ 2 ^ 67 ≤ mant ∧ (mant : ℝ) - 1 < y ∧ y < mant + 1)

theorem StandsFor.comparesAs {mant : Nat} {y : ℝ} (h : StandsFor mant y) {k : Nat} (hk : y = mant ∨ 1 ≤ k) :
    ComparesAs k mant y := by
  intro j hj
  by_cases hy : y = mant
  · subst hy
    exact ⟨by norm_cast, by norm_cast⟩
  · obtain ⟨hodd, -, hlow, hhigh⟩ := h.resolve_left hy
    have heven : (2 : ℤ) ∣ j := (dvd_pow_self 2 (by have := hk.resolve_left hy; omega)).trans hj
    constructor
    · constructor
      · intro h
        have : (mant : ℤ) < j + 1 := by exact_mod_cast (by push_cast; linarith : ((mant : ℤ) : ℝ) < ((j + 1 : ℤ) : ℝ))
        omega
      · intro h
        have : (mant : ℤ) + 1 ≤ j := by omega
        have : (mant : ℝ) + 1 ≤ j := by exact_mod_cast this
        linarith
    · constructor
      · intro h
        have : j < (mant : ℤ) + 1 := by exact_mod_cast (by push_cast; linarith : (j : ℝ) < (((mant : ℤ) + 1 : ℤ) : ℝ))
        omega
      · intro h
        have : j ≤ (mant : ℤ) - 1 := by omega
        have : (j : ℝ) ≤ (mant : ℝ) - 1 := by exact_mod_cast this
        linarith

theorem ComparesAs.eq_iff {k mant : Nat} {y : ℝ} (h : ComparesAs k mant y) {j : ℤ} (hj : 2 ^ k ∣ j) :
    y = j ↔ (mant : ℤ) = j := by
  rw [le_antisymm_iff, le_antisymm_iff, (h j hj).1, (h j hj).2]

/-- The mantissa is in its binade with the magnitude. -/
theorem StandsFor.log2_le {mant : Nat} {y : ℝ} (h : StandsFor mant y) (hm : mant ≠ 0) :
    (2 : ℝ) ^ Nat.log2 mant ≤ y ∧ y < 2 ^ (Nat.log2 mant + 1) := by
  have hlow : 2 ^ Nat.log2 mant ≤ mant := Nat.log2_self_le hm
  have hhigh : mant < 2 ^ (Nat.log2 mant + 1) := Nat.lt_log2_self
  have hk : y = mant ∨ 1 ≤ Nat.log2 mant := h.imp_right fun ⟨_, hlong, _⟩ =>
    le_trans (by norm_num) ((Nat.le_log2 hm).2 hlong)
  have hcmp := h.comparesAs hk
  have hl := (hcmp ((2 : ℤ) ^ Nat.log2 mant) dvd_rfl).2.2 (by exact_mod_cast hlow)
  have hh := mt (hcmp ((2 : ℤ) ^ (Nat.log2 mant + 1)) (pow_dvd_pow 2 (by omega))).2.1
    (not_le_of_gt (by exact_mod_cast hhigh))
  push_cast at hl hh
  exact ⟨hl, not_le.1 hh⟩

/-- A number that is to the halves of a unit as a mantissa is rounds to the multiple of the unit to which the mantissa does. -/
theorem RoundsTo.of_halves {rd : BitVec 2} {neg : Bool} {z : ℝ} {mant half q : Nat}
    (hz : ∀ i : ℤ, (2 * z ≤ i ↔ (mant : ℤ) ≤ i * half) ∧ ((i : ℝ) ≤ 2 * z ↔ i * half ≤ (mant : ℤ)))
    (hnear : rd = 0 → q * (2 * half) ≤ mant + half ∧ mant ≤ q * (2 * half) + half ∧
      (mant = q * (2 * half) + half ∨ q * (2 * half) = mant + half → q % 2 = 0))
    (hdown : towardZero rd neg → q * (2 * half) ≤ mant ∧ mant < q * (2 * half) + 2 * half)
    (hup : awayFromZero rd neg → mant ≤ q * (2 * half) ∧ q * (2 * half) < mant + 2 * half) : RoundsTo rd neg z q := by
  have hmul (c : ℤ) : (2 * (q : ℤ) + c) * half = q * (2 * half) + c * half := by ring
  have hge (c : ℤ) := (hz (2 * q + c)).1
  have hle (c : ℤ) := (hz (2 * q + c)).2
  simp only [hmul] at hge hle
  zify at hnear hdown hup
  refine ⟨fun hrd => ?_, fun hd => ?_, fun hd => ?_⟩
  · obtain ⟨hlow, hhigh, htie⟩ := hnear hrd
    have h1 := (hge 1).2 (by linarith)
    have h2 := (hle (-1)).2 (by linarith)
    push_cast at h1 h2
    refine ⟨abs_le.2 ⟨by linarith, by linarith⟩, fun habs => ?_⟩
    rcases (abs_eq (by norm_num)).1 habs with he | he
    · have h3 := (hle 1).1 (by push_cast; linarith)
      exact_mod_cast htie (.inl (by linarith))
    · have h3 := (hge (-1)).1 (by push_cast; linarith)
      exact_mod_cast htie (.inr (by linarith))
  · obtain ⟨hlow, hhigh⟩ := hdown hd
    have h1 := (hle 0).2 (by linarith)
    have h2 := mt (hle 2).1 (by linarith)
    push_cast at h1 h2
    exact ⟨by linarith, by linarith⟩
  · obtain ⟨hlow, hhigh⟩ := hup hd
    have h1 := (hge 0).2 (by linarith)
    have h2 := mt (hge (-2)).1 (by linarith)
    push_cast at h1 h2
    exact ⟨by linarith, by linarith⟩

/-- Rounding off n bits. -/
theorem roundShift_roundsTo (rd : BitVec 2) (neg : Bool) {mant n : Nat} {y : ℝ} (hn : 1 ≤ n)
    (h : ComparesAs (n - 1) mant y) :
    RoundsTo rd neg (y / 2 ^ n) (roundShift rd neg mant n).1 ∧
      ((roundShift rd neg mant n).2 = true ↔ y / 2 ^ n ≠ (roundShift rd neg mant n).1) := by
  have hdouble : 2 ^ n = 2 * 2 ^ (n - 1) := by rw [← pow_succ', Nat.sub_add_cancel hn]
  have hhalf : (0 : ℝ) < 2 ^ (n - 1) := by positivity
  constructor
  · obtain ⟨hnear, hdown, hup, -⟩ := roundingDirections rd neg mant n
    refine RoundsTo.of_halves (mant := mant) (half := 2 ^ (n - 1)) (fun i => ?_) (fun hrd => ?_) (fun hd => ?_)
      (fun hd => ?_)
    · have hz : 2 * (y / 2 ^ n) = y / 2 ^ (n - 1) := by
        rw [show (2 : ℝ) ^ n = 2 * 2 ^ (n - 1) by exact_mod_cast hdouble]
        field_simp
      have hi := h (i * 2 ^ (n - 1)) (dvd_mul_left _ _)
      push_cast at hi ⊢
      rw [hz, div_le_iff₀ hhalf, le_div_iff₀ hhalf]
      exact hi
    · obtain ⟨hlow, hhigh, htie⟩ := hnear hrd
      rw [hdouble] at hlow hhigh htie
      exact ⟨by omega, by omega, fun ht => htie (by omega) (by omega)⟩
    · rw [← hdouble]
      exact hdown hd
    · rw [← hdouble]
      exact hup hd
  · have hmult : y / 2 ^ n = (roundShift rd neg mant n).1 ↔ mant = (roundShift rd neg mant n).1 * 2 ^ n := by
      rw [div_eq_iff (by positivity)]
      have he := h.eq_iff (j := (roundShift rd neg mant n).1 * 2 ^ n)
        (Dvd.dvd.mul_left (pow_dvd_pow 2 (Nat.sub_le n 1)) _)
      push_cast at he
      rw [he]
      norm_cast
    rw [roundShift_inexact, Ne, Ne, hmult, not_iff_not]
    constructor
    · intro hr
      have hdiv := Nat.div_add_mod' mant (2 ^ n)
      rcases roundShift_fst rd neg mant n with ⟨hup, -⟩ | ⟨-, hq⟩
      · simp only [roundsUp, hr] at hup
        have := Nat.two_pow_pos n
        omega
      · rw [hq]; omega
    · intro he
      exact Nat.mod_eq_zero_of_dvd (Dvd.intro_left _ he.symm)

/-- The exponents at which a mantissa that stands for a magnitude may be cut. -/
theorem StandsFor.cut {mant : Nat} {y : ℝ} (h : StandsFor mant y) (hm : mant ≠ 0) {exp q p : ℤ} (hp : p ≤ 64)
    (hq : exp + (Nat.log2 mant : ℤ) - (p - 1) ≤ q) : y = mant ∨ exp + 2 ≤ q := by
  refine h.imp_right fun ⟨_, hlong, _⟩ => ?_
  have := (Nat.le_log2 hm).2 hlong
  omega

/-- Rounding to a multiple of 2^q. -/
theorem roundAt_roundsTo (rd : BitVec 2) (neg : Bool) {mant : Nat} {y : ℝ} (h : StandsFor mant y) {exp q : ℤ}
    (hq : y = mant ∨ exp + 2 ≤ q) :
    RoundsTo rd neg (y * 2 ^ (exp - q)) (roundAt rd neg mant exp q).1 ∧
      ((roundAt rd neg mant exp q).2 = true ↔ y * 2 ^ (exp - q) ≠ (roundAt rd neg mant exp q).1) := by
  unfold roundAt
  by_cases hle : q ≤ exp
  · rw [if_pos hle]
    have hy : y = mant := hq.resolve_right (by omega)
    have hz : y * 2 ^ (exp - q) = ((mant * 2 ^ (exp - q).toNat : ℕ) : ℝ) := by
      push_cast
      rw [hy, ← zpow_natCast, Int.toNat_of_nonneg (by omega)]
    rw [hz]
    exact ⟨RoundsTo.self rd neg _, by simp⟩
  · rw [if_neg hle]
    have hz : y * 2 ^ (exp - q) = y / 2 ^ (q - exp).toNat := by
      rw [← zpow_natCast, Int.toNat_of_nonneg (by omega), ← neg_sub q exp, zpow_neg, div_eq_mul_inv]
    rw [hz]
    exact roundShift_roundsTo rd neg (by omega) (h.comparesAs (hq.imp_right fun _ => by omega))

/-! ### Exponents and sizes -/

theorem log2_add_lt_iff {m : Nat} (hm : m ≠ 0) (q k : ℤ) : (Nat.log2 m : ℤ) + q < k ↔ (m : ℝ) * 2 ^ q < 2 ^ k := by
  have hlow : (2 : ℝ) ^ Nat.log2 m ≤ m := by exact_mod_cast Nat.log2_self_le hm
  have hhigh : (m : ℝ) < 2 ^ (Nat.log2 m + 1) := by exact_mod_cast Nat.lt_log2_self
  have hpos := two_zpow_pos q
  constructor
  · intro h
    calc (m : ℝ) * 2 ^ q < 2 ^ (Nat.log2 m + 1) * 2 ^ q := mul_lt_mul_of_pos_right hhigh hpos
      _ = 2 ^ (q + (Nat.log2 m + 1 : ℕ)) := (two_zpow_add_nat q _).symm
      _ ≤ 2 ^ k := two_zpow_le.2 (by push_cast; omega)
  · intro h
    have hlt := lt_of_le_of_lt (mul_le_mul_of_nonneg_right hlow hpos.le) h
    rw [← two_zpow_add_nat, two_zpow_lt] at hlt
    omega

/-- What is asked of a format: at least two bits, no more than 64, and exponents from a smallest to a largest. -/
structure FpFormat.Proper (fmt : FpFormat) : Prop where
  precision_ge : 2 ≤ fmt.precision
  precision_le : fmt.precision ≤ 64
  emin_le : fmt.emin ≤ fmt.emax

theorem formatOf_proper (d : Dest) : (formatOf d).Proper := by
  cases d <;> exact ⟨by decide, by decide, by decide⟩

theorem FpFormat.largest_eq (fmt : FpFormat) :
    fmt.largest = ((2 ^ fmt.precision - 1 : ℕ) : ℝ) * 2 ^ (fmt.emax - ((fmt.precision : ℤ) - 1)) := by
  rw [Nat.cast_sub Nat.one_le_two_pow]
  push_cast
  rfl

theorem FpFormat.largest_nonneg (fmt : FpFormat) : 0 ≤ fmt.largest := by
  rw [fmt.largest_eq]
  positivity

theorem FpFormat.largest_lt (fmt : FpFormat) : fmt.largest < 2 ^ (fmt.emax + 1) := by
  have hexp : fmt.emax + 1 = fmt.emax - ((fmt.precision : ℤ) - 1) + fmt.precision := by omega
  rw [hexp, two_zpow_add_nat]
  exact mul_lt_mul_of_pos_right (by linarith) (two_zpow_pos _)

section Sizes
variable {fmt : FpFormat} (hf : fmt.Proper)
include hf

theorem FpFormat.Proper.holds_largest : fmt.holds fmt.largest := by
  rw [fmt.largest_eq]
  exact FpFormat.holds_of_le hf.precision_ge (Nat.sub_le _ _) (by have := hf.emin_le; omega)

/-- A multiple of at most p bits is in range where its exponent is. -/
theorem FpFormat.Proper.le_largest_iff {m : Nat} {q : ℤ} (hm : m ≤ 2 ^ fmt.precision) (h0 : m ≠ 0) :
    (Nat.log2 m : ℤ) + q ≤ fmt.emax ↔ (m : ℝ) * 2 ^ q ≤ fmt.largest := by
  rw [← Int.lt_add_one_iff, log2_add_lt_iff h0]
  refine ⟨fun h => ?_, fun h => lt_of_le_of_lt h fmt.largest_lt⟩
  rw [fmt.largest_eq]
  generalize hu : fmt.emax - ((fmt.precision : ℤ) - 1) = u
  have hpos := two_zpow_pos u
  rcases le_or_gt u q with hq | hq
  · have hsplit : q = u + ((q - u).toNat : ℤ) := by omega
    have hv : (m : ℝ) * 2 ^ q = ((m * 2 ^ (q - u).toNat : ℕ) : ℝ) * 2 ^ u := by
      conv_lhs => rw [hsplit, two_zpow_add_nat]
      push_cast
      ring
    rw [hv] at h ⊢
    have hexp : fmt.emax + 1 = u + fmt.precision := by omega
    rw [hexp, two_zpow_add_nat] at h
    have hlt : m * 2 ^ (q - u).toNat < 2 ^ fmt.precision := by
      exact_mod_cast lt_of_mul_lt_mul_right h hpos.le
    exact mul_le_mul_of_nonneg_right (by exact_mod_cast Nat.le_sub_one_of_lt hlt) hpos.le
  · have hpow : 2 ^ fmt.precision = 2 * 2 ^ (fmt.precision - 1) := by
      rw [← pow_succ', Nat.sub_add_cancel (by have := hf.precision_ge; omega)]
    have hone := Nat.one_le_two_pow (n := fmt.precision - 1)
    calc (m : ℝ) * 2 ^ q ≤ ((2 ^ fmt.precision : ℕ) : ℝ) * 2 ^ (u - 1) :=
          mul_le_mul (by exact_mod_cast hm) (two_zpow_le.2 (by omega)) (two_zpow_pos q).le (by positivity)
      _ = ((2 ^ (fmt.precision - 1) : ℕ) : ℝ) * 2 ^ u := by
          conv_rhs => rw [← sub_add_cancel u 1, mul_two_zpow_succ]
          rw [hpow]
          push_cast
          ring
      _ ≤ ((2 ^ fmt.precision - 1 : ℕ) : ℝ) * 2 ^ u :=
          mul_le_mul_of_nonneg_right (by exact_mod_cast (by omega)) hpos.le

end Sizes

end Sys2Proof.Machine

/-! ## Correct rounding (O55, O60): rounding to a format, and its bits -/

namespace Sys2Proof.Machine

/-! ### Rounding to a format -/

section RoundTo
variable {mant : Nat} {y : ℝ} (hy : StandsFor mant y) (hm : mant ≠ 0) (rd : BitVec 2) (neg : Bool) (exp : ℤ)
include hy hm

/-- The magnitude lies in the binade of its mantissa. -/
theorem StandsFor.binade : (2 : ℝ) ^ (exp + (Nat.log2 mant : ℤ)) ≤ y * 2 ^ exp ∧
    y * 2 ^ exp < (2 : ℝ) ^ (exp + (Nat.log2 mant : ℤ) + 1) := by
  obtain ⟨hlow, hhigh⟩ := hy.log2_le hm
  have hpos := two_zpow_pos exp
  have hexp : exp + (Nat.log2 mant : ℤ) + 1 = exp + (Nat.log2 mant + 1 : ℕ) := by push_cast; ring
  rw [hexp, two_zpow_add_nat, two_zpow_add_nat]
  exact ⟨mul_le_mul_of_nonneg_right hlow hpos.le, mul_lt_mul_of_pos_right hhigh hpos⟩

/-- The mantissa rounded at the unit of the format is the rounding of the magnitude. -/
theorem roundAt_roundsMagnitude {fmt : FpFormat} (hp : 2 ≤ fmt.precision) (hp' : fmt.precision ≤ 64) {q : ℤ}
    (hq : q = max (exp + (Nat.log2 mant : ℤ)) fmt.emin - ((fmt.precision : ℤ) - 1)) :
    let m := (roundAt rd neg mant exp q).1
    fmt.RoundsMagnitude rd neg (y * 2 ^ exp) (m * 2 ^ q) ∧ m ≤ 2 ^ fmt.precision ∧
      (q = exp + (Nat.log2 mant : ℤ) - ((fmt.precision : ℤ) - 1) → 2 ^ (fmt.precision - 1) ≤ m) ∧
      ((roundAt rd neg mant exp q).2 = true ↔ (m : ℝ) * 2 ^ q ≠ y * 2 ^ exp) := by
  obtain ⟨hround, hlost⟩ := roundAt_roundsTo rd neg hy (hy.cut hm (p := fmt.precision) (exp := exp) (q := q) (by omega) (by omega))
  have hscale : y * 2 ^ (exp - q) * 2 ^ q = y * 2 ^ exp := by
    rw [mul_assoc, ← zpow_add₀ (by norm_num), sub_add_cancel]
  obtain ⟨hlow, hhigh⟩ := hy.binade hm exp
  rw [← hscale] at hlow hhigh
  obtain ⟨hmag, hle, hge⟩ := hround.roundsMagnitude hp hq hlow hhigh
  rw [hscale] at hmag
  refine ⟨hmag, hle, hge, hlost.trans (not_congr ?_)⟩
  rw [eq_comm, ← hscale, mul_left_inj' (two_zpow_pos q).ne']

/-- The model's test of tininess, before rounding and after it. -/
def tinyTest (fmt : FpFormat) (rd : BitVec 2) (before neg : Bool) (mant : Nat) (exp : ℤ) : Bool :=
  let e := exp + (Nat.log2 mant : ℤ)
  let p1 : ℤ := (fmt.precision : ℤ) - 1
  if before then decide (e < fmt.emin)
  else decide ((Nat.log2 (roundAt rd neg mant exp (e - p1)).1 : ℤ) + (e - p1) < fmt.emin)

/-- The mantissa rounded at the unit of its own binade is the rounding of the magnitude in every format of the same precision
whose exponents reach down to that binade. -/
theorem roundAt_free {fmt : FpFormat} (hp : 2 ≤ fmt.precision) (hp' : fmt.precision ≤ 64) {q : ℤ}
    (hq : q = exp + (Nat.log2 mant : ℤ) - ((fmt.precision : ℤ) - 1)) :
    let free := (roundAt rd neg mant exp q).1
    2 ^ (fmt.precision - 1) ≤ free ∧ ∀ emin ≤ exp + (Nat.log2 mant : ℤ),
      { fmt with emin := emin }.rounds rd (sgn neg * (y * 2 ^ exp)) (sgn neg * (free * 2 ^ q)) := by
  have hmag (emin : ℤ) (hemin : emin ≤ exp + (Nat.log2 mant : ℤ)) :=
    roundAt_roundsMagnitude hy hm rd neg exp (fmt := { fmt with emin := emin }) (q := q) hp hp'
      (by rw [max_eq_left hemin]; exact hq)
  obtain ⟨-, -, hge, -⟩ := hmag _ le_rfl
  refine ⟨hge hq, fun emin hemin => ?_⟩
  obtain ⟨hmag, -⟩ := hmag emin hemin
  exact hmag.rounds ((two_zpow_pos _).le.trans (hy.binade hm exp).1)

theorem tinyTest_iff {fmt : FpFormat} (hp : 2 ≤ fmt.precision) (hp' : fmt.precision ≤ 64) (before : Bool) :
    tinyTest fmt rd before neg mant exp = true ↔ fmt.tiny before rd (sgn neg * (y * 2 ^ exp)) := by
  obtain ⟨hlow, hhigh⟩ := hy.binade hm exp
  obtain ⟨hge, hrounds⟩ := roundAt_free hy hm rd neg exp hp hp' rfl
  have hypos : 0 ≤ y * 2 ^ exp := (two_zpow_pos _).le.trans hlow
  unfold tinyTest FpFormat.tiny
  rw [abs_sgn_mul, abs_of_nonneg hypos]
  generalize y * 2 ^ exp = x at *
  generalize exp + (Nat.log2 mant : ℤ) = e at *
  cases before with
  | true =>
    simp only [if_true, decide_eq_true_eq]
    exact ⟨fun h => lt_of_lt_of_le hhigh (two_zpow_le.2 (by omega)), fun h => two_zpow_lt.1 (lt_of_le_of_lt hlow h)⟩
  | false =>
    simp only [Bool.false_eq_true, if_false, decide_eq_true_eq]
    generalize hq : e - ((fmt.precision : ℤ) - 1) = q at *
    generalize (roundAt rd neg mant exp q).1 = free at *
    have habs : |sgn neg * ((free : ℝ) * 2 ^ q)| = free * 2 ^ q := by
      rw [abs_sgn_mul, abs_of_nonneg (by positivity)]
    have hgrid : (2 : ℝ) ^ e ≤ free * 2 ^ q := by
      rw [← binade_on_grid hp hq.symm]
      exact mul_le_mul_of_nonneg_right (by exact_mod_cast hge) (two_zpow_pos q).le
    rw [log2_add_lt_iff (lt_of_lt_of_le (Nat.two_pow_pos _) hge).ne']
    constructor
    · intro h
      exact ⟨e, _, (two_zpow_lt.1 (lt_of_le_of_lt hgrid h)).le, hlow, hrounds e le_rfl, by rwa [habs]⟩
    · rintro ⟨e', u, -, hle, hu, hlt⟩
      have he' : e' ≤ e := Int.lt_add_one_iff.1 (two_zpow_lt.1 (lt_of_le_of_lt hle hhigh))
      rwa [hu.unique (fmt := { fmt with emin := e' }) hp (hrounds e' he'), habs] at hlt

end RoundTo

/-- A mantissa at an exponent as a number: a zero or a finite one. -/
def numberOf (neg : Bool) (m : Nat) (q : ℤ) : FpNum := if m = 0 then .zero neg else .finite neg m q

/-- What rounding a magnitude y to a format delivers: its rounding m * 2^q, with whether anything was lost and whether it is
tiny; where that is beyond the largest number, the overflow. -/
structure FpFormat.Delivers (fmt : FpFormat) (rd : BitVec 2) (before neg : Bool) (y : ℝ) (r : Rounded) (m : Nat) (q : ℤ) :
    Prop where
  rounds : fmt.RoundsMagnitude rd neg y (m * 2 ^ q)
  mantissa_le : m ≤ 2 ^ fmt.precision
  exponent_ge : fmt.emin - ((fmt.precision : ℤ) - 1) ≤ q
  inRange : (m : ℝ) * 2 ^ q ≤ fmt.largest → r.value = numberOf neg m q ∧ r.overflow = false ∧
    (r.inexact = true ↔ (m : ℝ) * 2 ^ q ≠ y) ∧ (r.tiny = true ↔ fmt.tiny before rd (sgn neg * y))
  beyond : fmt.largest < (m : ℝ) * 2 ^ q → r = ⟨overflowValue fmt rd neg, true, false, true⟩

theorem roundTo_delivers {fmt : FpFormat} (hf : fmt.Proper) {mant : Nat} {y : ℝ} (hy : StandsFor mant y) (hm : mant ≠ 0)
    (rd : BitVec 2) (before neg : Bool) (exp : ℤ) :
    ∃ m q, fmt.Delivers rd before neg (y * 2 ^ exp) (roundTo fmt rd before neg mant exp) m q := by
  have htiny := tinyTest_iff hy hm rd neg exp hf.precision_ge hf.precision_le before
  generalize hq : max (exp + (Nat.log2 mant : ℤ)) fmt.emin - ((fmt.precision : ℤ) - 1) = q
  obtain ⟨hmag, hle, -, hlost⟩ := roundAt_roundsMagnitude hy hm rd neg exp hf.precision_ge hf.precision_le hq.symm
  have he : roundTo fmt rd before neg mant exp =
      if (roundAt rd neg mant exp q).1 = 0 then
        ⟨.zero neg, false, tinyTest fmt rd before neg mant exp, (roundAt rd neg mant exp q).2⟩
      else if (Nat.log2 (roundAt rd neg mant exp q).1 : ℤ) + q > fmt.emax then ⟨overflowValue fmt rd neg, true, false, true⟩
      else ⟨.finite neg (roundAt rd neg mant exp q).1 q, false, tinyTest fmt rd before neg mant exp,
        (roundAt rd neg mant exp q).2⟩ := by
    rw [← hq]
    rfl
  rw [he]
  generalize (roundAt rd neg mant exp q).1 = m at *
  refine ⟨m, q, hmag, hle, by omega, fun hrange => ?_, fun hover => ?_⟩
  · by_cases hm0 : m = 0
    · rw [if_pos hm0]
      exact ⟨(if_pos hm0).symm, rfl, hlost, htiny⟩
    · rw [if_neg hm0, if_neg (not_lt.2 ((hf.le_largest_iff hle hm0).2 hrange))]
      exact ⟨(if_neg hm0).symm, rfl, hlost, htiny⟩
  · have hm0 : m ≠ 0 := by
      rintro rfl
      rw [Nat.cast_zero, zero_mul] at hover
      exact absurd fmt.largest_nonneg (not_le.2 hover)
    rw [if_neg hm0, if_pos (not_le.1 (mt (hf.le_largest_iff hle hm0).1 (not_le.2 hover)))]

/-! ### Bits of results -/

/-- An exponent field and a mantissa that a format can write: exactly p bits, or fewer at the lowest exponent. -/
structure FpFormat.Fits (fmt : FpFormat) (e f : Nat) : Prop where
  nonzero : f ≠ 0
  lt : f < 2 ^ fmt.precision
  exponent_le : (e : ℤ) ≤ fmt.emax - fmt.emin
  normalized : e ≠ 0 → 2 ^ (fmt.precision - 1) ≤ f

/-- The fields of a number in range can be written, and have its value. -/
theorem fieldsOf_spec {fmt : FpFormat} (hf : fmt.Proper) {m : Nat} {q : ℤ} (h0 : m ≠ 0) (hm : m ≤ 2 ^ fmt.precision)
    (hq : fmt.emin - ((fmt.precision : ℤ) - 1) ≤ q) (hrange : (m : ℝ) * 2 ^ q ≤ fmt.largest) :
    let r := fieldsOf fmt m q
    fmt.Fits r.1 r.2 ∧ (r.2 : ℝ) * 2 ^ ((r.1 : ℤ) + (fmt.emin - ((fmt.precision : ℤ) - 1))) = m * 2 ^ q := by
  have hmax := (hf.le_largest_iff hm h0).2 hrange
  have hp := hf.precision_ge
  have hemin := hf.emin_le
  have hlow : 2 ^ Nat.log2 m ≤ m := Nat.log2_self_le h0
  have hhigh : m < 2 ^ (Nat.log2 m + 1) := Nat.lt_log2_self
  unfold fieldsOf
  dsimp only
  generalize hu : max (q + (Nat.log2 m : ℤ)) fmt.emin - ((fmt.precision : ℤ) - 1) = u
  have hexp : ((u + ((fmt.precision : ℤ) - 1) - fmt.emin).toNat : ℤ) = u + ((fmt.precision : ℤ) - 1) - fmt.emin :=
    Int.toNat_of_nonneg (by omega)
  have hback : (((u + ((fmt.precision : ℤ) - 1) - fmt.emin).toNat : ℤ) + (fmt.emin - ((fmt.precision : ℤ) - 1))) = u := by
    omega
  rw [hback]
  by_cases hle : u ≤ q
  · rw [if_pos hle]
    have hpos := Nat.two_pow_pos (q - u).toNat
    refine ⟨⟨Nat.mul_ne_zero h0 hpos.ne', ?_, by omega, fun hne => ?_⟩, ?_⟩
    · calc m * 2 ^ (q - u).toNat < 2 ^ (Nat.log2 m + 1) * 2 ^ (q - u).toNat := Nat.mul_lt_mul_of_pos_right hhigh hpos
        _ = 2 ^ (Nat.log2 m + 1 + (q - u).toNat) := (pow_add 2 _ _).symm
        _ ≤ 2 ^ fmt.precision := Nat.pow_le_pow_right (by omega) (by omega)
    · calc 2 ^ (fmt.precision - 1) ≤ 2 ^ (Nat.log2 m + (q - u).toNat) := Nat.pow_le_pow_right (by omega) (by omega)
        _ = 2 ^ Nat.log2 m * 2 ^ (q - u).toNat := pow_add 2 _ _
        _ ≤ m * 2 ^ (q - u).toNat := Nat.mul_le_mul_right _ hlow
    · have hsplit : q = u + ((q - u).toNat : ℤ) := by omega
      conv_rhs => rw [hsplit, two_zpow_add_nat]
      push_cast
      ring
  · rw [if_neg hle]
    have hlog : fmt.precision ≤ Nat.log2 m := by omega
    have hmp : m = 2 ^ fmt.precision := le_antisymm hm (le_trans (Nat.pow_le_pow_right (by omega) hlog) hlow)
    have hlogp : Nat.log2 m = fmt.precision := by rw [hmp, Nat.log2_two_pow]
    have hone : (u - q).toNat = 1 := by omega
    have hhalf : 2 ^ fmt.precision / 2 ^ 1 = 2 ^ (fmt.precision - 1) := Nat.pow_div (by omega) (by omega)
    rw [hone, hmp, hhalf]
    refine ⟨⟨(Nat.two_pow_pos _).ne', Nat.pow_lt_pow_right (by omega) (by omega), by omega, fun _ => le_rfl⟩, ?_⟩
    have hsucc : u = q + 1 := by omega
    rw [hsucc, mul_two_zpow_succ]
    push_cast
    rw [← pow_succ', Nat.sub_add_cancel (by omega)]

/-! ### Bits of results: each is read back as what was written -/

/-- A field of ones, and a field with a bit set. -/
theorem toNat_extract_ones {w s n : Nat} {x : BitVec w} (h : ∀ i < n, x.getLsbD (s + i) = true) :
    (x.extractLsb' s n).toNat = 2 ^ n - 1 := by
  have hones : x.extractLsb' s n = BitVec.allOnes n := by
    apply BitVec.eq_of_getLsbD_eq
    intro i hi
    simp [hi, h i hi]
  rw [hones, BitVec.toNat_allOnes]

theorem toNat_extract_ne_zero {w s n i : Nat} {x : BitVec w} (hi : i < n) (h : x.getLsbD (s + i) = true) :
    (x.extractLsb' s n).toNat ≠ 0 := by
  intro h0
  have hzero : x.extractLsb' s n = 0#n := BitVec.eq_of_toNat_eq (by simpa using h0)
  have hbit := congrArg (fun v => v.getLsbD i) hzero
  simp [hi, h] at hbit

/-- A number with an implicit first bit, from its sign, its exponent field e (`top` for infinities and NaNs), its fraction f of n
bits, the quiet bit of a NaN, and the exponent `low` of the last bit of the smallest numbers (R442, R443). -/
def readFields (top n : Nat) (low : ℤ) (neg : Bool) (e f : Nat) (quiet : Bool) : FpNum :=
  if e = top then (if f = 0 then .inf neg else .nan (!quiet))
  else if e = 0 then (if f = 0 then .zero neg else .finite neg f low)
  else .finite neg (f + 2 ^ n) ((e : ℤ) + (low - 1))

theorem unpackSingle_eq (w : Word) : unpackSingle w =
    readFields 255 23 (-149) w.msb (w.extractLsb' 23 8).toNat (w.extractLsb' 0 23).toNat (w.getLsbD 22) := rfl

theorem unpackDouble_eq (w : BitVec 64) : unpackDouble w =
    readFields 2047 52 (-1074) w.msb (w.extractLsb' 52 11).toNat (w.extractLsb' 0 52).toNat (w.getLsbD 51) := rfl

/-- A finite number that was read has at most n + 1 bits, and an exponent below that of the infinities. -/
theorem readFields_finite {top n : Nat} {low : ℤ} {neg neg' quiet : Bool} {e f m : Nat} {exp : ℤ} (he : e ≤ top)
    (hf : f < 2 ^ n) (h : readFields top n low neg e f quiet = .finite neg' m exp) :
    m < 2 ^ (n + 1) ∧ exp ≤ low + ((top : ℤ) - 2) ∨ m < 2 ^ n ∧ exp = low := by
  have hpow : 2 ^ (n + 1) = 2 * 2 ^ n := pow_succ' 2 n
  unfold readFields at h
  by_cases htop : e = top
  · rw [if_pos htop] at h
    by_cases hf0 : f = 0 <;> simp [hf0] at h
  · rw [if_neg htop] at h
    by_cases hlow : e = 0
    · rw [if_pos hlow] at h
      by_cases hf0 : f = 0
      · simp [hf0] at h
      · rw [if_neg hf0] at h
        obtain ⟨-, rfl, rfl⟩ := FpNum.finite.inj h
        exact .inr ⟨hf, rfl⟩
    · rw [if_neg hlow] at h
      obtain ⟨-, rfl, rfl⟩ := FpNum.finite.inj h
      exact .inl ⟨by omega, by omega⟩

/-- What is read of the fields that a finite number is written to. -/
theorem readFields_of_fits {fmt : FpFormat} {top n e f : Nat} {low : ℤ} (h : fmt.Fits e f) (hn : fmt.precision = n + 1)
    (htop : e + 1 < top) (neg quiet : Bool) :
    readFields top n low neg (if f < 2 ^ n then 0 else e + 1) (f % 2 ^ n) quiet = .finite neg f (e + low) := by
  have hlt : f < 2 * 2 ^ n := by rw [← pow_succ', ← hn]; exact h.lt
  unfold readFields
  by_cases hf : f < 2 ^ n
  · have he : e = 0 := by
      by_contra he
      have := h.normalized he
      rw [hn, Nat.add_sub_cancel] at this
      omega
    rw [if_pos hf, if_neg (by omega), if_pos rfl, Nat.mod_eq_of_lt hf, if_neg h.nonzero, he]
    simp
  · have hmod : f % 2 ^ n + 2 ^ n = f := by
      rw [Nat.mod_eq_sub_mod (not_lt.1 hf), Nat.mod_eq_of_lt (by omega)]
      omega
    have hexp : ((e + 1 : ℕ) : ℤ) + (low - 1) = e + low := by push_cast; ring
    rw [if_neg hf, if_neg (by omega), if_neg (by omega), hmod, hexp]

theorem unpackSingle_append (n : Bool) (e : BitVec 8) (f : BitVec 23) : unpackSingle (BitVec.ofBool n ++ e ++ f) =
    readFields 255 23 (-149) n e.toNat f.toNat ((BitVec.ofBool n ++ e ++ f).getLsbD 22) := by
  have he := e.isLt
  have hf := f.isLt
  have hmsb : (BitVec.ofBool n ++ e ++ f).msb = n := by
    rw [BitVec.msb_append, BitVec.msb_append]; cases n <;> rfl
  have hexp : ((BitVec.ofBool n ++ e ++ f).extractLsb' 23 8).toNat = e.toNat := by
    rw [toNat_extract, toNat_append_add, toNat_append_add]; omega
  have hfrac : ((BitVec.ofBool n ++ e ++ f).extractLsb' 0 23).toNat = f.toNat := by
    rw [toNat_extract, toNat_append_add]; omega
  rw [unpackSingle_eq, hmsb, hexp, hfrac]

theorem unpackDouble_append (n : Bool) (e : BitVec 11) (f : BitVec 52) : unpackDouble (BitVec.ofBool n ++ e ++ f) =
    readFields 2047 52 (-1074) n e.toNat f.toNat ((BitVec.ofBool n ++ e ++ f).getLsbD 51) := by
  have he := e.isLt
  have hf := f.isLt
  have hmsb : (BitVec.ofBool n ++ e ++ f).msb = n := by
    rw [BitVec.msb_append, BitVec.msb_append]; cases n <;> rfl
  have hexp : ((BitVec.ofBool n ++ e ++ f).extractLsb' 52 11).toNat = e.toNat := by
    rw [toNat_extract, toNat_append_add, toNat_append_add]; omega
  have hfrac : ((BitVec.ofBool n ++ e ++ f).extractLsb' 0 52).toNat = f.toNat := by
    rw [toNat_extract, toNat_append_add]; omega
  rw [unpackDouble_eq, hmsb, hexp, hfrac]

theorem unpackExtended_append (n : Bool) (e : BitVec 15) (u : BitVec 16) (j : BitVec 1) (f : BitVec 63) :
    unpackExtended (BitVec.ofBool n ++ e ++ u ++ j ++ f) =
      if e.toNat = 32767 then
        (if f.toNat = 0 then .inf n else .nan (!(BitVec.ofBool n ++ e ++ u ++ j ++ f).getLsbD 62))
      else if j.getLsbD 0 then .finite n (f.toNat + 2 ^ 63) ((e.toNat : Int) - 16446)
      else if e.toNat = 0 then (if f.toNat = 0 then .zero n else .finite n f.toNat (-16446))
      else .unnormal := by
  have he := e.isLt
  have hu := u.isLt
  have hj := j.isLt
  have hf := f.isLt
  have hmsb : (BitVec.ofBool n ++ e ++ u ++ j ++ f).msb = n := by
    rw [BitVec.msb_append, BitVec.msb_append, BitVec.msb_append, BitVec.msb_append]; cases n <;> rfl
  have hexp : ((BitVec.ofBool n ++ e ++ u ++ j ++ f).extractLsb' 80 15).toNat = e.toNat := by
    simp only [toNat_extract, toNat_append_add]; omega
  have hbit : (BitVec.ofBool n ++ e ++ u ++ j ++ f).getLsbD 63 = j.getLsbD 0 := by
    rw [BitVec.getLsbD_append, BitVec.getLsbD_append]; rfl
  have hfrac : ((BitVec.ofBool n ++ e ++ u ++ j ++ f).extractLsb' 0 63).toNat = f.toNat := by
    rw [toNat_extract, toNat_append_add]; omega
  unfold unpackExtended
  simp only [hmsb, hexp, hbit, hfrac]

theorem isNan_packSingle (free : BitVec 32) (x : Bool) : isNan (unpackSingle (packSingle free (.nan x))) = true := by
  have ones : ∀ i < 8, (0x7FC00000#32).getLsbD (23 + i) = true := by decide
  have he := toNat_extract_ones (x := free ||| 0x7FC00000#32) (s := 23) (n := 8) fun i hi => by
    rw [BitVec.getLsbD_or, ones i hi, Bool.or_true]
  have hf := toNat_extract_ne_zero (x := free ||| 0x7FC00000#32) (s := 0) (n := 23) (i := 22) (by decide) (by
    rw [BitVec.getLsbD_or]; exact Bool.or_true _)
  simp only [packSingle, unpackSingle, he, hf]
  rfl

theorem isNan_packDouble (free : BitVec 64) (x : Bool) : isNan (unpackDouble (packDouble free (.nan x))) = true := by
  have ones : ∀ i < 11, (0x7FF8000000000000#64).getLsbD (52 + i) = true := by decide
  have he := toNat_extract_ones (x := free ||| 0x7FF8000000000000#64) (s := 52) (n := 11) fun i hi => by
    rw [BitVec.getLsbD_or, ones i hi, Bool.or_true]
  have hf := toNat_extract_ne_zero (x := free ||| 0x7FF8000000000000#64) (s := 0) (n := 52) (i := 51) (by decide) (by
    rw [BitVec.getLsbD_or]; exact Bool.or_true _)
  simp only [packDouble, unpackDouble, he, hf]
  rfl

theorem isNan_packExtended (free : BitVec 96) (x : Bool) : isNan (unpackExtended (packExtended free (.nan x))) = true := by
  have ones : ∀ i < 15, (0x7FFF00004000000000000000#96).getLsbD (80 + i) = true ∧
      (0xFFFF0000FFFFFFFFFFFFFFFF#96).getLsbD (80 + i) = true := by decide
  have he := toNat_extract_ones (s := 80) (n := 15)
    (x := (free ||| 0x7FFF00004000000000000000#96) &&& 0xFFFF0000FFFFFFFFFFFFFFFF#96) fun i hi => by
      rw [BitVec.getLsbD_and, BitVec.getLsbD_or, (ones i hi).1, (ones i hi).2, Bool.or_true, Bool.and_true]
  have hf := toNat_extract_ne_zero (s := 0) (n := 63) (i := 62)
    (x := (free ||| 0x7FFF00004000000000000000#96) &&& 0xFFFF0000FFFFFFFFFFFFFFFF#96) (by decide) (by
      rw [BitVec.getLsbD_and, BitVec.getLsbD_or]
      exact (Bool.and_true _).trans (Bool.or_true _))
  simp only [packExtended, unpackExtended, he, hf]
  rfl

theorem unpackSingle_packSingle (free : BitVec 32) (n : Bool) {m : Nat} {q : ℤ}
    (h : formatSingle.Fits (fieldsOf formatSingle m q).1 (fieldsOf formatSingle m q).2) :
    unpackSingle (packSingle free (.finite n m q)) =
      .finite n (fieldsOf formatSingle m q).2 ((fieldsOf formatSingle m q).1 + -149) := by
  simp only [packSingle]
  generalize (fieldsOf formatSingle m q).1 = e at *
  generalize (fieldsOf formatSingle m q).2 = f at *
  have hexp : (e : ℤ) ≤ 127 - -126 := h.exponent_le
  have hfield : (if f < 2 ^ 23 then 0 else e + 1) % 2 ^ 8 = if f < 2 ^ 23 then 0 else e + 1 := by split <;> omega
  rw [unpackSingle_append, BitVec.toNat_ofNat, BitVec.toNat_ofNat, hfield]
  exact readFields_of_fits h rfl (by omega) n _

theorem unpackDouble_packDouble (free : BitVec 64) (n : Bool) {m : Nat} {q : ℤ}
    (h : formatDouble.Fits (fieldsOf formatDouble m q).1 (fieldsOf formatDouble m q).2) :
    unpackDouble (packDouble free (.finite n m q)) =
      .finite n (fieldsOf formatDouble m q).2 ((fieldsOf formatDouble m q).1 + -1074) := by
  simp only [packDouble]
  generalize (fieldsOf formatDouble m q).1 = e at *
  generalize (fieldsOf formatDouble m q).2 = f at *
  have hexp : (e : ℤ) ≤ 1023 - -1022 := h.exponent_le
  have hfield : (if f < 2 ^ 52 then 0 else e + 1) % 2 ^ 11 = if f < 2 ^ 52 then 0 else e + 1 := by split <;> omega
  rw [unpackDouble_append, BitVec.toNat_ofNat, BitVec.toNat_ofNat, hfield]
  exact readFields_of_fits h rfl (by omega) n _

theorem unpackExtended_packExtended (free : BitVec 96) (n : Bool) {m : Nat} {q : ℤ}
    (h : formatExtended.Fits (fieldsOf formatExtended m q).1 (fieldsOf formatExtended m q).2) :
    unpackExtended (packExtended free (.finite n m q)) =
      .finite n (fieldsOf formatExtended m q).2 ((fieldsOf formatExtended m q).1 + -16446) := by
  simp only [packExtended]
  generalize (fieldsOf formatExtended m q).1 = e at *
  generalize (fieldsOf formatExtended m q).2 = f at *
  have hlt : f < 2 ^ 64 := h.lt
  have hexp : (e : ℤ) ≤ 16383 - -16383 := h.exponent_le
  have hbits : (BitVec.ofBool n ++ BitVec.ofNat 15 e ++ 0#16 ++ BitVec.ofNat 64 f : BitVec 96) =
      BitVec.ofBool n ++ BitVec.ofNat 15 e ++ 0#16 ++ BitVec.ofNat 1 (f / 2 ^ 63) ++ BitVec.ofNat 63 f := by
    apply BitVec.eq_of_toNat_eq
    simp only [toNat_append_add, BitVec.toNat_ofNat]
    omega
  rw [hbits, unpackExtended_append, BitVec.toNat_ofNat, BitVec.toNat_ofNat, if_neg (by omega)]
  by_cases hf : f < 2 ^ 63
  · have hj : (BitVec.ofNat 1 (f / 2 ^ 63)).getLsbD 0 = false := by rw [Nat.div_eq_of_lt hf]; rfl
    have he : e = 0 := by
      by_contra he
      exact absurd (h.normalized he) (not_le.2 hf)
    rw [hj, Nat.mod_eq_of_lt hf, he, if_neg Bool.false_ne_true, if_pos (by decide), if_neg h.nonzero]
    rfl
  · have hj : (BitVec.ofNat 1 (f / 2 ^ 63)).getLsbD 0 = true := by
      rw [show f / 2 ^ 63 = 1 by omega]; rfl
    rw [hj, if_pos rfl, show f % 2 ^ 63 + 2 ^ 63 = f by omega, show ((e % 2 ^ 15 : ℕ) : ℤ) - 16446 = e + -16446 by omega]

section Packed
variable (s : State) (d : Dest) (n : Bool)

theorem packed_inf : (s.packed d (.inf n)).num d = some (.inf n) := by
  cases d
  · exact congrArg some (unpackSingle_append n 0xFF#8 0#23)
  · exact congrArg some (unpackDouble_append n 0x7FF#11 0#52)
  · exact congrArg some (unpackExtended_append n 0x7FFF#15 0#16 _ 0#63)

theorem packed_zero : (s.packed d (.zero n)).num d = some (.zero n) := by
  cases d
  · exact congrArg some (by cases n <;> decide : unpackSingle (BitVec.ofBool n ++ 0#31) = .zero n)
  · exact congrArg some (by cases n <;> decide : unpackDouble (BitVec.ofBool n ++ 0#63) = .zero n)
  · exact congrArg some (by cases n <;> decide : unpackExtended (BitVec.ofBool n ++ 0#95) = .zero n)

theorem packed_nan (x : Bool) : ∃ v, (s.packed d (.nan x)).num d = some v ∧ isNan v = true := by
  cases d
  · exact ⟨_, rfl, isNan_packSingle _ x⟩
  · exact ⟨_, rfl, isNan_packDouble _ x⟩
  · exact ⟨_, rfl, isNan_packExtended _ x⟩

/-- A finite number in range is read back with its value. -/
theorem packed_finite {m : Nat} {q : ℤ} (h0 : m ≠ 0) (hm : m ≤ 2 ^ (formatOf d).precision)
    (hq : (formatOf d).emin - (((formatOf d).precision : ℤ) - 1) ≤ q) (hrange : (m : ℝ) * 2 ^ q ≤ (formatOf d).largest) :
    ∃ v, (s.packed d (.finite n m q)).num d = some v ∧ v.isNumber ∧ (v.value : ℝ) = sgn n * (m * 2 ^ q) := by
  obtain ⟨hfit, hvalue⟩ := fieldsOf_spec (formatOf_proper d) h0 hm hq hrange
  refine ⟨.finite n (fieldsOf (formatOf d) m q).2 (((fieldsOf (formatOf d) m q).1 : ℤ) + ((formatOf d).emin -
    (((formatOf d).precision : ℤ) - 1))), ?_, hfit.nonzero, ?_⟩
  · cases d
    · exact congrArg some (unpackSingle_packSingle _ n hfit)
    · exact congrArg some (unpackDouble_packDouble _ n hfit)
    · exact congrArg some (unpackExtended_packExtended _ n hfit)
  · rw [FpNum.value_finite_real, hvalue]

end Packed

end Sys2Proof.Machine

/-! ## Correct rounding (O55, O60): exact results and answers -/

namespace Sys2Proof.Machine

/-! ### From an exact result to the answer -/

/-- An exact result is the number x: a zero, or a mantissa that stands for its magnitude. -/
def Exact.Stands (r : Exact) (x : ℝ) : Prop :=
  match r with
  | .zero _ => x = 0
  | .value neg mant exp => mant ≠ 0 ∧ ∃ y, StandsFor mant y ∧ x = sgn neg * (y * 2 ^ exp)
  | _ => False

/-- The FPop answers with an exact result rounded to its format. -/
def Answers (s : State) (fn : FpFn) (rs1 rs2 : Reg) (d : Dest) (r : Exact) : Prop :=
  ∃ a b, fpAnswer fn s rs1 rs2 = some (s.rounded fn d a b r)

theorem roundingFormat_zero (d : Dest) (narrow : Bool) : roundingFormat d 0 narrow = formatOf d := by
  cases d <;> rfl

/-- The rounding of a number to its format, where neither RP nor AU has a say. -/
theorem State.rounded_value {s : State} {d : Dest} (hrp : d ≠ .extended ∨ s.fpu.fsr.rp = 0) (fn : FpFn) (a b : Nat)
    (neg : Bool) (mant : Nat) (exp : ℤ)
    (hau : (s.fpu.fsr.au && (roundTo (formatOf d) s.fpu.fsr.rd s.cfg.tinyBeforeRounding neg mant exp).tiny) = false) :
    let r := roundTo (formatOf d) s.fpu.fsr.rd s.cfg.tinyBeforeRounding neg mant exp
    s.rounded fn d a b (.value neg mant exp) =
      ⟨a, b, s.packed d r.value, exceptions false r.overflow (r.tiny && r.inexact) false r.inexact⟩ := by
  have hformat : ∀ narrow, roundingFormat d s.fpu.fsr.rp narrow = formatOf d := by
    intro narrow
    rcases hrp with h | h
    · cases d with
      | extended => exact absurd rfl h
      | _ => rfl
    · rw [h]; exact roundingFormat_zero d narrow
  have hopen : ¬ (d = .extended ∧ s.fpu.fsr.rp = 3) := by
    rintro ⟨hd, h3⟩
    rcases hrp with h | h
    · exact h hd
    · rw [h] at h3; exact absurd h3 (by decide)
  simp only [State.rounded, hformat, if_neg hopen, hau]
  rfl

theorem exceptions_rounded (ufl nx : Bool) :
    exceptions false false ufl false nx &&& 0b11010#5 = 0 ∧ (exceptions false false ufl false nx).getLsbD 0 = nx ∧
      (exceptions false false ufl false nx).getLsbD 2 = ufl := by
  cases ufl <;> cases nx <;> decide

theorem packed_numberOf (s : State) (d : Dest) (neg : Bool) {m : Nat} {q : ℤ} (hm : m ≤ 2 ^ (formatOf d).precision)
    (hq : (formatOf d).emin - (((formatOf d).precision : ℤ) - 1) ≤ q) (hrange : (m : ℝ) * 2 ^ q ≤ (formatOf d).largest) :
    ∃ v, (s.packed d (numberOf neg m q)).num d = some v ∧ v.isNumber ∧ (v.value : ℝ) = sgn neg * (m * 2 ^ q) := by
  unfold numberOf
  by_cases h0 : m = 0
  · rw [if_pos h0]
    exact ⟨_, packed_zero s d neg, trivial, by simp [FpNum.value, h0]⟩
  · rw [if_neg h0]
    exact packed_finite s d neg h0 hm hq hrange

section Answers
variable {s : State} {fn : FpFn} {rs1 rs2 : Reg} {d : Dest} {r : Exact} {x : ℝ}

theorem FpFormat.holds_zero (fmt : FpFormat) : fmt.holds 0 :=
  ⟨0, fmt.emin - ((fmt.precision : ℤ) - 1), by simp, le_rfl, by simp⟩

/-- A zero result is its own rounding, with no exception. -/
theorem Answers.rounded_zero {neg : Bool} (h : Answers s fn rs1 rs2 d (.zero neg)) : RoundedAnswer s fn rs1 rs2 d 0 := by
  obtain ⟨a, b, h⟩ := h
  have hzero : ((FpNum.zero neg).value : ℝ) = 0 := by simp [FpNum.value]
  have hclear : ∀ i, ¬ (s.rounded fn d a b (.zero neg)).texc.getLsbD i = true := fun i => by simp [State.rounded]
  refine ⟨_, _, h, packed_zero s d neg, trivial, ?_, (by decide : (0 : BitVec 5) &&& 0b11010#5 = 0), ?_, ?_⟩
  · rw [hzero]
    refine ⟨FpFormat.holds_zero _, fun _ w hw => ⟨by simp, fun hw0 he => absurd ?_ hw0⟩,
      fun _ => ⟨le_rfl, fun w _ hw => by simp⟩, fun _ => ⟨le_rfl, fun w _ hw => hw⟩, fun _ => ⟨le_rfl, fun w _ hw => hw⟩⟩
    simpa using he.symm
  · rw [hzero]
    exact ⟨fun h => absurd h (hclear 0), fun h => absurd rfl h⟩
  · rw [hzero]
    exact ⟨fun h => absurd h (hclear 2), fun h => absurd rfl h.2⟩

theorem sgn_mul_neg_iff {neg : Bool} {y : ℝ} (hy : 0 < y) : sgn neg * y < 0 ↔ neg = true := by
  cases neg <;> simp [hy, hy.le]

/-- A direction leads to the infinity of a sign, or away from it, and not both. -/
theorem overflow_directions : ∀ (rd : BitVec 2) (neg : Bool),
    ((rd = 0 ∨ (rd = 2 ∧ neg = false) ∨ (rd = 3 ∧ neg = true)) ∨
        (rd = 1 ∨ (rd = 2 ∧ neg = true) ∨ (rd = 3 ∧ neg = false))) ∧
      ¬ ((rd = 0 ∨ (rd = 2 ∧ neg = false) ∨ (rd = 3 ∧ neg = true)) ∧
        (rd = 1 ∨ (rd = 2 ∧ neg = true) ∨ (rd = 3 ∧ neg = false))) := by
  decide

/-- What an overflow answers: an infinity of the sign, or the largest number where the direction leads away from it. -/
theorem overflowValue_answer (s : State) (d : Dest) (rd : BitVec 2) (neg : Bool) {y : ℝ} (hy : 0 < y) :
    ∃ n, (s.packed d (overflowValue (formatOf d) rd neg)).num d = some n ∧
      (rd = 0 ∨ (rd = 2 ∧ 0 < sgn neg * y) ∨ (rd = 3 ∧ sgn neg * y < 0) →
        ∃ b, n = .inf b ∧ (b = true ↔ sgn neg * y < 0)) ∧
      (rd = 1 ∨ (rd = 2 ∧ sgn neg * y < 0) ∨ (rd = 3 ∧ 0 < sgn neg * y) →
        n.isNumber ∧ (n.value : ℝ) = if sgn neg * y < 0 then -(formatOf d).largest else (formatOf d).largest) := by
  have hsign := sgn_mul_neg_iff (neg := neg) hy
  have hpos : 0 < sgn neg * y ↔ neg = false := by cases neg <;> simp [hy, hy.le]
  simp only [hsign, hpos]
  have hinf : rd = 0 ∨ (rd = 2 ∧ neg = false) ∨ (rd = 3 ∧ neg = true) →
      overflowValue (formatOf d) rd neg = .inf neg := by
    rintro (rfl | ⟨rfl, rfl⟩ | ⟨rfl, rfl⟩) <;> rfl
  have hfin : rd = 1 ∨ (rd = 2 ∧ neg = true) ∨ (rd = 3 ∧ neg = false) → overflowValue (formatOf d) rd neg =
      .finite neg (2 ^ (formatOf d).precision - 1) ((formatOf d).emax - (((formatOf d).precision : ℤ) - 1)) := by
    rintro (rfl | ⟨rfl, rfl⟩ | ⟨rfl, rfl⟩) <;> rfl
  obtain ⟨hexcl, hdisj⟩ := overflow_directions rd neg
  have hf := formatOf_proper d
  rcases hexcl with hd | hd
  · rw [hinf hd]
    exact ⟨_, packed_inf s d neg, fun _ => ⟨neg, rfl, Iff.rfl⟩, fun h => absurd ⟨hd, h⟩ hdisj⟩
  · rw [hfin hd]
    have hone : 1 < 2 ^ (formatOf d).precision := Nat.one_lt_two_pow (by have := hf.precision_ge; omega)
    obtain ⟨v, hv, hnum, hval⟩ := packed_finite s d neg (m := 2 ^ (formatOf d).precision - 1)
      (q := (formatOf d).emax - (((formatOf d).precision : ℤ) - 1)) (by omega) (Nat.sub_le _ _)
      (by have := hf.emin_le; omega) (formatOf d).largest_eq.ge
    refine ⟨v, hv, fun h => absurd ⟨h, hd⟩ hdisj, fun _ => ⟨hnum, ?_⟩⟩
    rw [hval, ← (formatOf d).largest_eq]
    cases neg <;> simp

section Delivers
variable {neg : Bool} {y : ℝ} {a b m : Nat} {q : ℤ} {ρ : Rounded}
  (h : fpAnswer fn s rs1 rs2 = some ⟨a, b, s.packed d ρ.value,
    exceptions false ρ.overflow (ρ.tiny && ρ.inexact) false ρ.inexact⟩)
  (hρ : (formatOf d).Delivers s.fpu.fsr.rd s.cfg.tinyBeforeRounding neg y ρ m q)
include h hρ

/-- What was delivered in range is a rounded answer. -/
theorem roundedAnswer_of_delivers (hy : 0 ≤ y) (hrange : (m : ℝ) * 2 ^ q ≤ (formatOf d).largest) :
    RoundedAnswer s fn rs1 rs2 d (sgn neg * y) := by
  obtain ⟨hvalue, hovf, hinexact, htiny⟩ := hρ.inRange hrange
  obtain ⟨v, hv, hnum, hval⟩ := packed_numberOf s d neg hρ.mantissa_le hρ.exponent_ge hrange
  have hne : (v.value : ℝ) ≠ sgn neg * y ↔ (m : ℝ) * 2 ^ q ≠ y := by
    rw [hval]; cases neg <;> simp
  rw [← hne] at hinexact
  rw [hovf, hvalue] at h
  obtain ⟨hzero, hnx, hufl⟩ := exceptions_rounded (ρ.tiny && ρ.inexact) ρ.inexact
  refine ⟨_, v, h, hv, hnum, by rw [hval]; exact hρ.rounds.rounds hy, hzero, ?_, ?_⟩
  · rw [hnx]; exact hinexact
  · rw [hufl, Bool.and_eq_true, htiny, hinexact]

/-- What was delivered beyond the largest number is an overflow. -/
theorem overflowAnswer_of_delivers (hy : 0 < y) (hbeyond : (formatOf d).largest < (m : ℝ) * 2 ^ q) :
    OverflowAnswer s fn rs1 rs2 d (sgn neg * y) := by
  rw [hρ.beyond hbeyond] at h
  obtain ⟨n, hn, hinf, hfin⟩ := overflowValue_answer s d s.fpu.fsr.rd neg hy
  exact ⟨_, n, h, hn, (by decide : exceptions false true false false true = 0b01001#5), hinf, hfin⟩

end Delivers

/-- An FPop that answers with an exact result that is x delivers x. -/
theorem Answers.delivered (hau : s.fpu.fsr.au = false) (hrp : s.fpu.fsr.rp = 0) (h : Answers s fn rs1 rs2 d r)
    (hr : r.Stands x) : DeliveredAnswer s fn rs1 rs2 d x := by
  have hf := formatOf_proper d
  cases r with
  | nan _ | inf _ _ => exact absurd hr id
  | zero neg =>
    obtain rfl : x = 0 := hr
    have hlargest : |(0 : ℝ)| ≤ (formatOf d).largest := by rw [abs_zero]; exact FpFormat.largest_nonneg _
    exact ⟨fun _ => h.rounded_zero, fun hlt => absurd hlargest (not_le.2 hlt)⟩
  | value neg mant exp =>
    obtain ⟨hm, y, hy, rfl⟩ := hr
    obtain ⟨a, b, h⟩ := h
    rw [State.rounded_value (.inr hrp) fn a b neg mant exp (by rw [hau]; rfl)] at h
    obtain ⟨m, q, hdel⟩ := roundTo_delivers hf hy hm s.fpu.fsr.rd s.cfg.tinyBeforeRounding neg exp
    have hypos : 0 < y * 2 ^ exp := lt_of_lt_of_le (two_zpow_pos _) (hy.binade hm exp).1
    have hrounds := hdel.rounds.rounds hypos.le
    have habs : |sgn neg * ((m : ℝ) * 2 ^ q)| = m * 2 ^ q := by rw [abs_sgn_mul, abs_of_nonneg hdel.rounds.nonneg]
    refine ⟨fun hrange => ?_, fun _ => ⟨_, hrounds, fun hrange => ?_, fun hbeyond => ?_⟩⟩
    · have hin := hrounds.abs_le_of_holds hf.holds_largest hrange
      exact roundedAnswer_of_delivers h hdel hypos.le (habs ▸ hin)
    · exact roundedAnswer_of_delivers h hdel hypos.le (habs ▸ hrange)
    · exact overflowAnswer_of_delivers h hdel hypos (habs ▸ hbeyond)

/-- An invalid operation answers a NaN. -/
theorem Answers.invalid (h : Answers s fn rs1 rs2 d (.nan true)) : InvalidAnswer s fn rs1 rs2 d := by
  obtain ⟨a, b, h⟩ := h
  obtain ⟨v, hv, hnan⟩ := packed_nan s d false
  exact ⟨_, v, h, hv, hnan, rfl⟩

/-- A division by zero answers an infinity. -/
theorem Answers.divideByZero {neg : Bool} (h : Answers s fn rs1 rs2 d (.inf neg true)) :
    ∃ a, fpAnswer fn s rs1 rs2 = some a ∧ a.result.num d = some (.inf neg) ∧ a.texc = 0b00010#5 := by
  obtain ⟨a, b, h⟩ := h
  exact ⟨_, h, packed_inf s d neg, rfl⟩

end Answers

/-! ### Exact operations -/

theorem Exact.stands_value {m : Nat} (hm : m ≠ 0) (neg : Bool) (e : ℤ) :
    (Exact.value neg m e).Stands (sgn neg * ((m : ℝ) * 2 ^ e)) :=
  ⟨hm, m, .inl rfl, rfl⟩

/-- An integer is its magnitude under its sign. -/
theorem intCast_eq_sgn_mul (t : ℤ) : (t : ℝ) = sgn (decide (t < 0)) * (t.natAbs : ℝ) := by
  rw [Nat.cast_natAbs]
  push_cast
  rcases lt_or_ge t 0 with h | h
  · rw [decide_eq_true h, abs_of_neg (by exact_mod_cast h), sgn_true]; ring
  · rw [decide_eq_false (by omega), abs_of_nonneg (by exact_mod_cast h), sgn_false]; ring

/-- A nonzero integer at an exponent, as sign and magnitude. -/
theorem Exact.stands_int {t : ℤ} (ht : t ≠ 0) (e : ℤ) : (Exact.value (decide (t < 0)) t.natAbs e).Stands ((t : ℝ) * 2 ^ e) := by
  have hs := Exact.stands_value (Int.natAbs_ne_zero.2 ht) (decide (t < 0)) e
  rwa [← mul_assoc, ← intCast_eq_sgn_mul] at hs

theorem FpNum.value_zero (n : Bool) : ((FpNum.zero n).value : ℝ) = 0 := by simp [FpNum.value]

theorem FpNum.stands_finite {n : Bool} {m : Nat} {e : ℤ} (hm : (FpNum.finite n m e).isNumber) :
    (Exact.value n m e).Stands (FpNum.finite n m e).value := by
  rw [FpNum.value_finite_real]
  exact Exact.stands_value hm n e

theorem sumFinite_stands (rd : BitVec 2) (na : Bool) (ma : Nat) (ea : ℤ) (nb : Bool) (mb : Nat) (eb : ℤ) :
    (sumFinite rd na ma ea nb mb eb).Stands
      (((FpNum.finite na ma ea).value : ℝ) + (FpNum.finite nb mb eb).value) := by
  have hsum : ((FpNum.finite na ma ea).value : ℝ) + (FpNum.finite nb mb eb).value =
      ((scaled na ma ea (min ea eb) + scaled nb mb eb (min ea eb) : ℤ) : ℝ) * 2 ^ min ea eb := by
    rw [← scaled_value na ma (min_le_left ea eb), ← scaled_value nb mb (min_le_right ea eb)]
    push_cast
    ring
  rw [hsum]
  unfold sumFinite
  dsimp only
  generalize scaled na ma ea (min ea eb) + scaled nb mb eb (min ea eb) = t
  by_cases ht : t = 0
  · rw [if_pos ht, ht]
    show ((0 : ℤ) : ℝ) * _ = 0
    simp
  · rw [if_neg ht]
    exact Exact.stands_int ht _

section Operations
variable {a b : FpNum} (ha : a.isNumber) (hb : b.isNumber)
include ha

/-- A conversion keeps the number. -/
theorem exactConvert_stands : (exactConvert a).Stands a.value := by
  cases a with
  | nan _ | inf _ | unnormal => exact absurd ha id
  | zero n => exact FpNum.value_zero n
  | finite n m e => exact FpNum.stands_finite ha

theorem negate_number : (negate a).isNumber ∧ ((negate a).value : ℝ) = -a.value := by
  cases a with
  | nan _ | inf _ | unnormal => exact absurd ha id
  | zero n => exact ⟨trivial, by rw [negate, FpNum.value_zero, FpNum.value_zero, neg_zero]⟩
  | finite n m e =>
    refine ⟨ha, ?_⟩
    rw [negate, FpNum.value_finite_real, FpNum.value_finite_real]
    cases n <;> simp

include hb

theorem exactAdd_stands (rd : BitVec 2) : (exactAdd rd a b).Stands ((a.value : ℝ) + b.value) := by
  cases a with
  | nan _ | inf _ | unnormal => exact absurd ha id
  | zero p =>
    rw [FpNum.value_zero, zero_add]
    cases b with
    | nan _ | inf _ | unnormal => exact absurd hb id
    | zero q => exact FpNum.value_zero q
    | finite n m e => exact FpNum.stands_finite hb
  | finite n m e =>
    cases b with
    | nan _ | inf _ | unnormal => exact absurd hb id
    | zero q =>
      rw [FpNum.value_zero, add_zero]
      exact FpNum.stands_finite ha
    | finite n' m' e' => exact sumFinite_stands rd n m e n' m' e'

theorem exactSub_stands (rd : BitVec 2) : (exactSub rd a b).Stands ((a.value : ℝ) - b.value) := by
  obtain ⟨hnum, hval⟩ := negate_number hb
  rw [sub_eq_add_neg, ← hval]
  exact exactAdd_stands ha hnum rd

theorem exactMul_stands : (exactMul a b).Stands ((a.value : ℝ) * b.value) := by
  cases a with
  | nan _ | inf _ | unnormal => exact absurd ha id
  | zero p =>
    rw [FpNum.value_zero, zero_mul]
    cases b with
    | nan _ | inf _ | unnormal => exact absurd hb id
    | zero q => exact rfl
    | finite n m e => exact rfl
  | finite n m e =>
    cases b with
    | nan _ | inf _ | unnormal => exact absurd hb id
    | zero q =>
      rw [FpNum.value_zero, mul_zero]
      exact rfl
    | finite n' m' e' =>
      have hs := Exact.stands_value (Nat.mul_ne_zero ha hb) (n ^^ n') (e + e')
      have hprod : sgn (n ^^ n') * (((m * m' : ℕ) : ℝ) * 2 ^ (e + e')) =
          ((FpNum.finite n m e).value : ℝ) * (FpNum.finite n' m' e').value := by
        rw [FpNum.value_finite_real, FpNum.value_finite_real, zpow_add₀ (by norm_num)]
        cases n <;> cases n' <;> simp <;> ring
      rwa [hprod] at hs

end Operations

/-! ### Quotient and root -/

/-- A jammed mantissa stands for twice the number it was cut from (log entry 15). -/
theorem jam_standsFor {k : Nat} {cut : Bool} {z : ℝ} (hk : 2 ^ 66 ≤ k)
    (hz : if cut then (k : ℝ) < z ∧ z < k + 1 else z = k) : StandsFor (jam k cut) (2 * z) := by
  unfold jam StandsFor
  cases cut with
  | false =>
    left
    rw [if_neg Bool.false_ne_true] at hz
    rw [hz]
    push_cast
    simp
  | true =>
    right
    rw [if_pos rfl] at hz
    obtain ⟨h1, h2⟩ := hz
    refine ⟨by simp [Nat.add_mod], by simp only [if_true]; omega, ?_, ?_⟩ <;> push_cast <;> simp only [if_true] <;> linarith

theorem jam_ne_zero {k : Nat} {cut : Bool} (hk : 2 ^ 66 ≤ k) : jam k cut ≠ 0 := by
  unfold jam
  omega

/-- A number lies in the binade of its length. -/
theorem bitLength_spec {n : Nat} (hn : n ≠ 0) :
    bitLength n ≠ 0 ∧ 2 ^ (bitLength n - 1) ≤ n ∧ n < 2 ^ bitLength n := by
  unfold bitLength
  rw [if_neg hn]
  exact ⟨Nat.succ_ne_zero _, Nat.log2_self_le hn, Nat.lt_log2_self⟩

theorem bitLength_le {n k : Nat} (h : n < 2 ^ k) : bitLength n ≤ k := by
  by_cases hn : n = 0
  · simp [bitLength, hn]
  · obtain ⟨h0, hlow, -⟩ := bitLength_spec hn
    have := (Nat.pow_lt_pow_iff_right (by decide : 1 < 2)).1 (lt_of_le_of_lt hlow h)
    omega

/-- The quotient of two mantissas of at most 64 bits. -/
theorem quotientFinite_stands {ma mb : Nat} (ha : ma ≠ 0) (hb : mb ≠ 0) (hlen : ma < 2 ^ 64) (neg : Bool) (ea eb : ℤ) :
    (quotientFinite neg ma ea mb eb).Stands (sgn neg * (((ma : ℝ) * 2 ^ ea) / ((mb : ℝ) * 2 ^ eb))) := by
  obtain ⟨ha0, halow, -⟩ := bitLength_spec ha
  obtain ⟨hb0, -, hbhigh⟩ := bitLength_spec hb
  have hshort := bitLength_le hlen
  unfold quotientFinite
  dsimp only
  generalize hk : 67 + bitLength mb - bitLength ma = k
  have hbpos : (0 : ℝ) < mb := by exact_mod_cast Nat.pos_of_ne_zero hb
  have hdiv := Nat.div_add_mod' (ma * 2 ^ k) mb
  have hmod := Nat.mod_lt (ma * 2 ^ k) (Nat.pos_of_ne_zero hb)
  have hbig : 2 ^ 66 ≤ ma * 2 ^ k / mb := by
    rw [Nat.le_div_iff_mul_le (Nat.pos_of_ne_zero hb)]
    calc 2 ^ 66 * mb ≤ 2 ^ 66 * 2 ^ bitLength mb := Nat.mul_le_mul_left _ hbhigh.le
      _ = 2 ^ (bitLength ma - 1) * 2 ^ k := by rw [← pow_add, ← pow_add]; congr 1; omega
      _ ≤ ma * 2 ^ k := Nat.mul_le_mul_right _ halow
  have hquot : ((ma * 2 ^ k : ℕ) : ℝ) / mb = (ma * 2 ^ k / mb : ℕ) + ((ma * 2 ^ k % mb : ℕ) : ℝ) / mb := by
    rw [div_eq_iff hbpos.ne', add_mul, div_mul_cancel₀ _ hbpos.ne']
    exact_mod_cast hdiv.symm
  refine ⟨jam_ne_zero hbig, _, jam_standsFor (z := ((ma * 2 ^ k : ℕ) : ℝ) / mb) hbig ?_, ?_⟩
  · rw [hquot]
    generalize ma * 2 ^ k % mb = r at *
    by_cases hr : r = 0
    · simp [hr]
    · have hr0 : (0 : ℝ) < r := by exact_mod_cast Nat.pos_of_ne_zero hr
      have hr1 : (r : ℝ) / mb < 1 := by rw [div_lt_one hbpos]; exact_mod_cast hmod
      simp only [bne_iff_ne, ne_eq, hr, not_false_eq_true, if_true]
      constructor <;> linarith [div_pos hr0 hbpos]
  · have hpow : (2 : ℝ) ^ (ea - eb - (k : ℤ) - 1) = 2 ^ ea / 2 ^ eb / 2 ^ k / 2 := by
      rw [zpow_sub_one₀ (by norm_num), zpow_sub₀ (by norm_num), zpow_sub₀ (by norm_num), zpow_natCast, div_eq_mul_inv _ 2]
    rw [hpow]
    push_cast
    field_simp

/-- The bit by bit root from a weight down. -/
theorem rootFrom_spec (n bits : Nat) : ∀ acc, acc * acc ≤ n → n < (acc + 2 ^ bits) * (acc + 2 ^ bits) →
    rootFrom n bits acc * rootFrom n bits acc ≤ n ∧ n < (rootFrom n bits acc + 1) * (rootFrom n bits acc + 1) := by
  induction bits with
  | zero => exact fun acc h1 h2 => ⟨h1, by simpa [rootFrom] using h2⟩
  | succ b ih =>
    intro acc h1 h2
    have hpow : acc + 2 ^ (b + 1) = acc + 2 ^ b + 2 ^ b := by rw [pow_succ]; ring
    rw [hpow] at h2
    unfold rootFrom
    by_cases h : (acc + 2 ^ b) * (acc + 2 ^ b) ≤ n
    · rw [if_pos h]
      exact ih _ h h2
    · rw [if_neg h]
      exact ih _ h1 (not_le.1 h)

theorem natRoot_spec (n : Nat) : natRoot n * natRoot n ≤ n ∧ n < (natRoot n + 1) * (natRoot n + 1) := by
  refine rootFrom_spec n _ 0 (by simp) ?_
  by_cases hn : n = 0
  · rw [hn]; simp
  · obtain ⟨-, -, hhigh⟩ := bitLength_spec hn
    rw [Nat.zero_add, ← pow_add]
    exact lt_of_lt_of_le hhigh (Nat.pow_le_pow_right (by decide) (by omega))

/-- The square root of a positive number of at most 64 bits. -/
theorem rootFinite_stands {m : Nat} (hm : m ≠ 0) (hlen : m < 2 ^ 64) (e : ℤ) :
    (rootFinite m e).Stands (Real.sqrt ((m : ℝ) * 2 ^ e)) := by
  obtain ⟨h0, hlow, -⟩ := bitLength_spec hm
  have hshort := bitLength_le hlen
  unfold rootFinite
  dsimp only
  generalize hk : (if (e - ((134 - bitLength m : ℕ) : ℤ)) % 2 = 0 then 134 - bitLength m else 134 - bitLength m + 1) = k
  have hk2 : 134 - bitLength m ≤ k ∧ (e - (k : ℤ)) % 2 = 0 := by
    split at hk <;> subst hk
    · exact ⟨le_rfl, by assumption⟩
    · exact ⟨by omega, by push_cast; omega⟩
  obtain ⟨hk1, hk2⟩ := hk2
  obtain ⟨hroot, hroot'⟩ := natRoot_spec (m * 2 ^ k)
  have hn : 2 ^ 133 ≤ m * 2 ^ k :=
    calc 2 ^ 133 ≤ 2 ^ (bitLength m - 1) * 2 ^ k := by rw [← pow_add]; exact Nat.pow_le_pow_right (by decide) (by omega)
      _ ≤ m * 2 ^ k := Nat.mul_le_mul_right _ hlow
  have hbig : 2 ^ 66 ≤ natRoot (m * 2 ^ k) := by
    by_contra h
    have hlt : natRoot (m * 2 ^ k) + 1 ≤ 2 ^ 66 := by omega
    have := Nat.mul_le_mul hlt hlt
    omega
  have hvalue : Real.sqrt ((m : ℝ) * 2 ^ e) = Real.sqrt ((m * 2 ^ k : ℕ) : ℝ) * 2 ^ ((e - (k : ℤ)) / 2) := by
    have hsplit : (m : ℝ) * 2 ^ e = ((m * 2 ^ k : ℕ) : ℝ) * (2 ^ ((e - (k : ℤ)) / 2) * 2 ^ ((e - (k : ℤ)) / 2)) := by
      rw [← zpow_add₀ (by norm_num), show (e - (k : ℤ)) / 2 + (e - (k : ℤ)) / 2 = e - k by omega]
      push_cast
      rw [mul_assoc, ← zpow_natCast, ← zpow_add₀ (by norm_num), add_sub_cancel]
    rw [hsplit, Real.sqrt_mul (by positivity), Real.sqrt_mul_self (by positivity)]
  generalize m * 2 ^ k = n at *
  generalize natRoot n = r at *
  refine ⟨jam_ne_zero hbig, _, jam_standsFor (z := Real.sqrt (n : ℝ)) hbig ?_, ?_⟩
  · have hge : (r : ℝ) ≤ Real.sqrt n := Real.le_sqrt_of_sq_le (by rw [sq]; exact_mod_cast hroot)
    have hlt : Real.sqrt n < r + 1 := by
      rw [Real.sqrt_lt' (by positivity), sq]
      exact_mod_cast hroot'
    by_cases hr : r * r = n
    · have hself : Real.sqrt (n : ℝ) = r := by
        rw [← hr]; push_cast
        exact Real.sqrt_mul_self (by positivity)
      simp [hr, hself]
    · have hne : (r : ℝ) ≠ Real.sqrt n := by
        intro h
        have hsq := Real.mul_self_sqrt (show (0 : ℝ) ≤ n by positivity)
        rw [← h] at hsq
        exact hr (by exact_mod_cast hsq)
      simp only [bne_iff_ne, ne_eq, hr, not_false_eq_true, if_true]
      exact ⟨lt_of_le_of_ne hge hne, hlt⟩
  · rw [hvalue, sgn_false, zpow_sub_one₀ (by norm_num)]
    ring

end Sys2Proof.Machine

/-! ## Arithmetic and conversions (O55, O60) -/

namespace Sys2Proof.Machine

/-! ### Operands -/

theorem FpNum.isNumber.not_unnormal {x : FpNum} (h : x.isNumber) : x ≠ .unnormal := by
  rintro rfl
  exact h

section Unpack
variable {n : Bool} {m : Nat} {e : ℤ}

theorem unpackSingle_finite {w : Word} (h : unpackSingle w = .finite n m e) : m < 2 ^ 24 ∧ e ≤ 104 := by
  have hexp := (w.extractLsb' 23 8).isLt
  rcases readFields_finite (by omega) (w.extractLsb' 0 23).isLt h with h | h <;> omega

theorem unpackDouble_finite {w : BitVec 64} (h : unpackDouble w = .finite n m e) : m < 2 ^ 53 ∧ e ≤ 971 := by
  have hexp := (w.extractLsb' 52 11).isLt
  rcases readFields_finite (by omega) (w.extractLsb' 0 52).isLt h with h | h <;> omega

theorem unpackExtended_finite {w : BitVec 96} (h : unpackExtended w = .finite n m e) : m < 2 ^ 64 ∧ e ≤ 16320 := by
  have hexp := (w.extractLsb' 80 15).isLt
  have hfrac := (w.extractLsb' 0 63).isLt
  simp only [unpackExtended] at h
  generalize (w.extractLsb' 80 15).toNat = e' at *
  generalize (w.extractLsb' 0 63).toNat = f at *
  by_cases htop : e' = 32767
  · rw [if_pos htop] at h
    by_cases hf : f = 0 <;> simp [hf] at h
  · rw [if_neg htop] at h
    by_cases hj : w.getLsbD 63 = true
    · rw [if_pos hj] at h
      obtain ⟨-, rfl, rfl⟩ := FpNum.finite.inj h
      omega
    · rw [if_neg hj] at h
      by_cases hlow : e' = 0
      · rw [if_pos hlow] at h
        by_cases hf : f = 0
        · simp [hf] at h
        · rw [if_neg hf] at h
          obtain ⟨-, rfl, rfl⟩ := FpNum.finite.inj h
          omega
      · rw [if_neg hlow] at h
        cases h

/-- A finite operand has at most the bits of its format and no larger exponent. -/
theorem State.operandNum_finite {s : State} {d : Dest} {r : Reg} (h : s.operandNum d r = .finite n m e) :
    m < 2 ^ (formatOf d).precision ∧ e ≤ (formatOf d).emax - (((formatOf d).precision : ℤ) - 1) := by
  cases d
  · exact unpackSingle_finite h
  · exact unpackDouble_finite h
  · exact unpackExtended_finite h

end Unpack

/-- An operand is no larger than the largest number of its format. -/
theorem State.operandNum_le_largest {s : State} {d : Dest} {r : Reg} (h : (s.operandNum d r).isNumber) :
    |((s.operandNum d r).value : ℝ)| ≤ (formatOf d).largest := by
  cases hx : s.operandNum d r with
  | nan _ | inf _ | unnormal => rw [hx] at h; exact absurd h id
  | zero n =>
    rw [FpNum.value_zero, abs_zero]
    exact FpFormat.largest_nonneg _
  | finite n m e =>
    obtain ⟨hm, he⟩ := State.operandNum_finite hx
    rw [FpNum.value_finite_real, abs_sgn_mul, abs_of_nonneg (by positivity), FpFormat.largest_eq]
    exact mul_le_mul (by exact_mod_cast Nat.le_sub_one_of_lt hm) (two_zpow_le.2 he) (two_zpow_pos e).le (by positivity)

/-- A power of two up to the largest exponent is in range. -/
theorem FpFormat.Proper.two_zpow_le_largest {fmt : FpFormat} (hf : fmt.Proper) {k : ℤ} (hk : k ≤ fmt.emax) :
    (2 : ℝ) ^ k ≤ fmt.largest := by
  have := (hf.le_largest_iff (m := 1) (q := k) Nat.one_le_two_pow one_ne_zero).1 (by
    rw [show Nat.log2 1 = 0 by decide]; simpa using hk)
  simpa using this

theorem emax_ge (d : Dest) : 127 ≤ (formatOf d).emax := by cases d <;> decide

/-- The integer operand as a number. -/
theorem unpackInteger_number (w : Word) : (unpackInteger w).isNumber ∧ ((unpackInteger w).value : ℝ) = (w.toInt : ℝ) := by
  unfold unpackInteger
  by_cases h : w.toInt = 0
  · rw [if_pos h]
    exact ⟨trivial, by rw [FpNum.value_zero, h, Int.cast_zero]⟩
  · rw [if_neg h]
    refine ⟨Int.natAbs_ne_zero.2 h, ?_⟩
    rw [FpNum.value_finite_real, intCast_eq_sgn_mul w.toInt, zpow_zero, mul_one]

theorem toInt_word_bounds (w : Word) : -2 ^ 31 ≤ w.toInt ∧ w.toInt < 2 ^ 31 :=
  ⟨BitVec.le_toInt w, BitVec.toInt_lt⟩

/-! ### Quotient and root of operands -/

theorem precision_le (d : Dest) : 2 ^ (formatOf d).precision ≤ 2 ^ 64 :=
  Nat.pow_le_pow_right (by decide) (formatOf_proper d).precision_le

theorem exactDiv_stands {s : State} {d : Dest} {r : Reg} {b : FpNum} (ha : (s.operandNum d r).isNumber)
    (hb : b.isNumber) (hb0 : b.value ≠ 0) :
    (exactDiv (s.operandNum d r) b).Stands (((s.operandNum d r).value : ℝ) / b.value) := by
  cases b with
  | nan _ | inf _ | unnormal => exact absurd hb id
  | zero q => exact absurd rfl hb0
  | finite n' m' e' =>
    cases hx : s.operandNum d r with
    | nan _ | inf _ | unnormal => rw [hx] at ha; exact absurd ha id
    | zero p =>
      rw [FpNum.value_zero, zero_div]
      exact rfl
    | finite n m e =>
      rw [hx] at ha
      have hlen := lt_of_lt_of_le (State.operandNum_finite hx).1 (precision_le d)
      have hs := quotientFinite_stands ha hb hlen (n ^^ n') e e'
      have hquot : sgn (n ^^ n') * ((m : ℝ) * 2 ^ e / ((m' : ℝ) * 2 ^ e')) =
          ((FpNum.finite n m e).value : ℝ) / (FpNum.finite n' m' e').value := by
        rw [FpNum.value_finite_real, FpNum.value_finite_real]
        cases n <;> cases n' <;> simp [neg_div, div_neg]
      rwa [hquot] at hs

theorem exactSqrt_stands {s : State} {d : Dest} {r : Reg} (ha : (s.operandNum d r).isNumber)
    (h0 : 0 ≤ (s.operandNum d r).value) :
    (exactSqrt (s.operandNum d r)).Stands (Real.sqrt ((s.operandNum d r).value : ℝ)) := by
  cases hx : s.operandNum d r with
  | nan _ | inf _ | unnormal => rw [hx] at ha; exact absurd ha id
  | zero p =>
    rw [FpNum.value_zero, Real.sqrt_zero]
    exact rfl
  | finite n m e =>
    rw [hx] at ha h0
    have hsign := FpNum.value_finite_sign (neg := n) (e := e) ha
    cases n with
    | true => exact absurd hsign (not_lt.2 h0)
    | false =>
      rw [FpNum.value_finite_real, sgn_false, one_mul]
      exact rootFinite_stands ha (lt_of_lt_of_le (State.operandNum_finite hx).1 (precision_le d)) e

/-- A square root below zero is invalid. -/
theorem exactSqrt_negative {a : FpNum} (ha : a.isNumber) (h0 : a.value < 0) : exactSqrt a = .nan true := by
  cases a with
  | nan _ | inf _ | unnormal => exact absurd ha id
  | zero p => exact absurd h0 (lt_irrefl _)
  | finite n m e =>
    have hsign := FpNum.value_finite_sign (neg := n) (e := e) ha
    cases n with
    | true => rfl
    | false => exact absurd h0 (not_lt.2 hsign.le)

/-- The square root of a number of a format is in its range. -/
theorem sqrt_le_largest (d : Dest) {x : ℝ} (hx : |x| ≤ (formatOf d).largest) : |Real.sqrt x| ≤ (formatOf d).largest := by
  have hone : (1 : ℝ) ≤ (formatOf d).largest := by
    simpa using (formatOf_proper d).two_zpow_le_largest (k := 0) (by have := emax_ge d; omega)
  rw [abs_of_nonneg (Real.sqrt_nonneg x), Real.sqrt_le_left (by linarith)]
  nlinarith [le_abs_self x]

/-! ### What the FPops answer -/

/-- An operation on two operands of a precision, and on one, with its result in a precision. -/
def State.arithTwo (s : State) (fn : FpFn) (d : Dest) (rs1 rs2 : Reg) (op : FpNum → FpNum → Exact) : FpAnswer :=
  match d with
  | .single => s.arithSingles fn rs1 rs2 op
  | .double => s.arithDoubles fn rs1 rs2 op
  | .extended => s.arithExtendeds fn rs1 rs2 op

def State.arithOne (s : State) (fn : FpFn) (src d : Dest) (rs2 : Reg) (op : FpNum → Exact) : FpAnswer :=
  match src with
  | .single => s.arithSingle fn d rs2 op
  | .double => s.arithDouble fn d rs2 op
  | .extended => s.arithExtended fn d rs2 op

section Arith
variable {s : State} (hau : s.fpu.fsr.au = false) {fn : FpFn} {rs1 rs2 : Reg}
include hau

/-- Nothing is open with AU = 0 and no unnormal operand. -/
theorem State.arith_defined (d : Dest) (a b : Nat) (subnormal : Bool) (x : Exact) :
    s.arith fn d a b false subnormal x = s.rounded fn d a b x := by
  unfold State.arith
  rw [hau, openOperands_defined]

theorem answers_two {d : Dest} {op : FpNum → FpNum → Exact}
    (h : fpAnswer fn s rs1 rs2 = some (s.arithTwo fn d rs1 rs2 op)) (h1 : s.operandNum d rs1 ≠ .unnormal)
    (h2 : s.operandNum d rs2 ≠ .unnormal) :
    Answers s fn rs1 rs2 d (op (s.operandNum d rs1) (s.operandNum d rs2)) := by
  cases d
  · exact ⟨_, _, h.trans (congrArg some (State.arith_defined hau ..))⟩
  · exact ⟨_, _, h.trans (congrArg some (State.arith_defined hau ..))⟩
  · have hun : (decide (unpackExtended (s.extended rs1) = .unnormal) ||
        decide (unpackExtended (s.extended rs2) = .unnormal)) = false := unnormal_false h1 h2
    simp only [State.arithTwo, State.arithExtendeds, hun, State.arith_defined hau] at h
    exact ⟨_, _, h⟩

theorem answers_one {src d : Dest} {op : FpNum → Exact}
    (h : fpAnswer fn s rs1 rs2 = some (s.arithOne fn src d rs2 op)) (h2 : s.operandNum src rs2 ≠ .unnormal) :
    Answers s fn rs1 rs2 d (op (s.operandNum src rs2)) := by
  cases src
  · exact ⟨_, _, h.trans (congrArg some (State.arith_defined hau ..))⟩
  · exact ⟨_, _, h.trans (congrArg some (State.arith_defined hau ..))⟩
  · have hun : decide (unpackExtended (s.extended rs2) = .unnormal) = false := decide_eq_false h2
    simp only [State.arithOne, State.arithExtended, hun, State.arith_defined hau] at h
    exact ⟨_, _, h⟩

omit hau in
/-- With an integer operand nothing is open whatever AU is. -/
theorem answers_integer {d : Dest} (h : fpAnswer fn s rs1 rs2 = some (s.arithInteger fn d rs2)) :
    Answers s fn rs1 rs2 d (exactConvert (unpackInteger (s.freg rs2))) := by
  have hnone : openOperands s.fpu.fsr.au false false = none := by cases s.fpu.fsr.au <;> rfl
  simp only [State.arithInteger, State.arith, hnone] at h
  exact ⟨_, _, h⟩

end Arith

/-! ### The integer to a double -/

/-- A number that the format holds, also with smaller exponents, and that is not below the smallest normalized one is not
tiny. -/
theorem FpFormat.not_tiny {fmt : FpFormat} {x : ℝ} (hx : fmt.holds x) (hbig : (2 : ℝ) ^ fmt.emin ≤ |x|) (before : Bool)
    (rd : BitVec 2) : ¬ fmt.tiny before rd x := by
  cases before with
  | true => exact not_lt.2 hbig
  | false =>
    rintro ⟨e, u, he, -, hu, hlt⟩
    have hheld : { fmt with emin := e }.holds x := by
      obtain ⟨m, q, hm, hq, hval⟩ := hx
      exact ⟨m, q, hm, by show e - ((fmt.precision : ℤ) - 1) ≤ q; omega, hval⟩
    rw [hu.eq_of_holds hheld] at hlt
    exact absurd hlt (not_lt.2 hbig)

theorem FpFormat.holds.sgn_mul {fmt : FpFormat} {y : ℝ} (h : fmt.holds y) (neg : Bool) : fmt.holds (sgn neg * y) := by
  cases neg with
  | false => rwa [sgn_false, one_mul]
  | true => rw [sgn_true, neg_one_mul]; exact h.neg

/-- A magnitude that the format holds, in range and not below the smallest normalized number, is delivered with no exception. -/
theorem roundTo_exact {fmt : FpFormat} (hf : fmt.Proper) {mant : Nat} (hm : mant ≠ 0) {exp : ℤ}
    (hheld : fmt.holds ((mant : ℝ) * 2 ^ exp)) (hrange : (mant : ℝ) * 2 ^ exp ≤ fmt.largest)
    (hbig : (2 : ℝ) ^ fmt.emin ≤ (mant : ℝ) * 2 ^ exp) (rd : BitVec 2) (before neg : Bool) :
    ∃ (m : Nat) (q : ℤ), m ≤ 2 ^ fmt.precision ∧ fmt.emin - ((fmt.precision : ℤ) - 1) ≤ q ∧
      (m : ℝ) * 2 ^ q = mant * 2 ^ exp ∧ roundTo fmt rd before neg mant exp = ⟨numberOf neg m q, false, false, false⟩ := by
  have hpos : (0 : ℝ) ≤ (mant : ℝ) * 2 ^ exp := by positivity
  have hx := hheld.sgn_mul neg
  obtain ⟨m, q, hmag, hle, hq, hin, -⟩ := roundTo_delivers hf (.inl rfl) hm rd before neg exp
  have heq : (m : ℝ) * 2 ^ q = mant * 2 ^ exp := by
    have hself := (hmag.rounds hpos).eq_of_holds hx
    have habs := congrArg abs hself
    rwa [abs_sgn_mul, abs_sgn_mul, abs_of_nonneg hmag.nonneg, abs_of_nonneg hpos] at habs
  obtain ⟨hvalue, hover, hinexact, htiny⟩ := hin (heq ▸ hrange)
  have hnot := FpFormat.not_tiny hx (by rwa [abs_sgn_mul, abs_of_nonneg hpos]) before rd
  refine ⟨m, q, hle, hq, heq, ?_⟩
  generalize roundTo fmt rd before neg mant exp = r at *
  obtain ⟨v, o, t, i⟩ := r
  obtain rfl : v = numberOf neg m q := hvalue
  obtain rfl : o = false := hover
  obtain rfl : i = false := Bool.eq_false_iff.2 fun h => hinexact.1 h heq
  obtain rfl : t = false := Bool.eq_false_iff.2 fun h => hnot (htiny.1 h)
  rfl

/-- A nonzero integer of 32 bits, answered in double precision, is delivered as itself. -/
theorem Answers.double_exact {s : State} {fn : FpFn} {rs1 rs2 : Reg} {neg : Bool} {m : Nat}
    (h : Answers s fn rs1 rs2 .double (.value neg m 0)) (hm : m ≠ 0) (hsmall : m ≤ 2 ^ 31) :
    ∃ a d, fpAnswer fn s rs1 rs2 = some a ∧ a.texc = 0 ∧ a.result = .double d ∧
      ((unpackDouble d).value : ℝ) = sgn neg * m := by
  obtain ⟨a, b, h⟩ := h
  have hf := formatOf_proper .double
  have hone : (1 : ℝ) ≤ m := by exact_mod_cast Nat.one_le_iff_ne_zero.2 hm
  have hrange : (m : ℝ) * 2 ^ (0 : ℤ) ≤ (formatOf .double).largest := by
    have hpow : (m : ℝ) ≤ 2 ^ (31 : ℤ) := by exact_mod_cast hsmall
    rw [zpow_zero, mul_one]
    exact hpow.trans (hf.two_zpow_le_largest (by decide))
  have hbig : (2 : ℝ) ^ (formatOf .double).emin ≤ (m : ℝ) * 2 ^ (0 : ℤ) := by
    rw [zpow_zero, mul_one]
    exact (zpow_le_one_of_nonpos₀ (by norm_num) (by decide)).trans hone
  have hheld : (formatOf .double).holds ((m : ℝ) * 2 ^ (0 : ℤ)) :=
    FpFormat.holds_of_le hf.precision_ge (hsmall.trans (by decide)) (by decide)
  obtain ⟨m', q, hle, hq, hval, hround⟩ :=
    roundTo_exact hf hm hheld hrange hbig s.fpu.fsr.rd s.cfg.tinyBeforeRounding neg
  have hans := State.rounded_value (s := s) (d := .double) (.inl (by decide)) fn a b neg m 0 (by rw [hround, Bool.and_false])
  rw [hround] at hans
  obtain ⟨v, hv, -, hvval⟩ := packed_numberOf s .double neg hle hq (hval ▸ hrange)
  rw [hans] at h
  refine ⟨_, _, h, (by decide : exceptions false false false false false = 0), rfl, ?_⟩
  rw [Option.some.inj hv, hvval, hval, zpow_zero, mul_one]

/-- Settles O55: the integer under its sign is delivered as itself (`Answers.double_exact`). -/
theorem integerToDoubleIsExact : Obligations.IntegerToDoubleIsExact := by
  unfold Obligations.IntegerToDoubleIsExact
  intro s rs1 rs2
  have h := answers_integer (s := s) (fn := .fitod) (rs1 := rs1) (rs2 := rs2) (d := .double) rfl
  by_cases h0 : (s.freg rs2).toInt = 0
  · have hx : exactConvert (unpackInteger (s.freg rs2)) = .zero false := by
      unfold unpackInteger; rw [if_pos h0]; rfl
    rw [hx] at h
    obtain ⟨a, b, h⟩ := h
    refine ⟨_, _, h, rfl, rfl, ?_⟩
    rw [Option.some.inj (packed_zero s .double false), h0]
    rfl
  · have hx : exactConvert (unpackInteger (s.freg rs2)) =
        .value (decide ((s.freg rs2).toInt < 0)) (s.freg rs2).toInt.natAbs 0 := by
      unfold unpackInteger; rw [if_neg h0]; rfl
    rw [hx] at h
    obtain ⟨hlow, hhigh⟩ := toInt_word_bounds (s.freg rs2)
    obtain ⟨a, d, ha, htexc, hres, hval⟩ := h.double_exact (Int.natAbs_ne_zero.2 h0) (by omega)
    rw [← intCast_eq_sgn_mul] at hval
    exact ⟨a, d, ha, htexc, hres, by exact_mod_cast hval⟩

/-! ### Every operation -/

section Delivered
variable {s : State} (hau : s.fpu.fsr.au = false) {fn : FpFn} {rs1 rs2 : Reg} {d : Dest}
include hau

/-- A division: a number by a number that is no zero, and by a zero. -/
theorem division_delivered (hrp : s.fpu.fsr.rp = 0)
    (h : fpAnswer fn s rs1 rs2 = some (s.arithTwo fn d rs1 rs2 exactDiv)) (ha : (s.operandNum d rs1).isNumber)
    (hb : (s.operandNum d rs2).isNumber) :
    ((s.operandNum d rs2).value ≠ 0 →
      DeliveredAnswer s fn rs1 rs2 d (((s.operandNum d rs1).value : ℝ) / ((s.operandNum d rs2).value : ℝ))) ∧
    (∀ p q m e, s.operandNum d rs1 = .finite p m e → s.operandNum d rs2 = .zero q →
      ∃ r, fpAnswer fn s rs1 rs2 = some r ∧ r.result.num d = some (.inf (p != q)) ∧ r.texc = 0b00010#5) := by
  have hans := answers_two hau h ha.not_unnormal hb.not_unnormal
  refine ⟨fun hb0 => hans.delivered hau hrp (exactDiv_stands ha hb hb0), fun p q m e h1 h2 => ?_⟩
  rw [h1, h2] at hans
  exact hans.divideByZero

/-- A square root: of a number not below zero, and below zero. -/
theorem squareRoot_delivered (hrp : s.fpu.fsr.rp = 0)
    (h : fpAnswer fn s rs1 rs2 = some (s.arithOne fn d d rs2 exactSqrt)) (ha : (s.operandNum d rs2).isNumber) :
    (0 ≤ (s.operandNum d rs2).value → RoundedAnswer s fn rs1 rs2 d (Real.sqrt ((s.operandNum d rs2).value : ℝ))) ∧
      ((s.operandNum d rs2).value < 0 → InvalidAnswer s fn rs1 rs2 d) := by
  have hans := answers_one hau h ha.not_unnormal
  refine ⟨fun h0 => ?_, fun h0 => ?_⟩
  · exact (hans.delivered hau hrp (exactSqrt_stands ha h0)).1 (sqrt_le_largest d (State.operandNum_le_largest ha))
  · rw [exactSqrt_negative ha h0] at hans
    exact hans.invalid

/-- A format conversion. -/
theorem conversion_delivered (hrp : s.fpu.fsr.rp = 0) {src : Dest}
    (h : fpAnswer fn s rs1 rs2 = some (s.arithOne fn src d rs2 exactConvert)) (ha : (s.operandNum src rs2).isNumber) :
    DeliveredAnswer s fn rs1 rs2 d ((s.operandNum src rs2).value : ℝ) :=
  (answers_one hau h ha.not_unnormal).delivered hau hrp (exactConvert_stands ha)

/-- An integer in a format. -/
theorem integer_rounded (hrp : s.fpu.fsr.rp = 0) (h : fpAnswer fn s rs1 rs2 = some (s.arithInteger fn d rs2)) :
    RoundedAnswer s fn rs1 rs2 d (((s.freg rs2).toInt : ℤ) : ℝ) := by
  obtain ⟨hnum, hval⟩ := unpackInteger_number (s.freg rs2)
  have hdel := (answers_integer h).delivered hau hrp (exactConvert_stands hnum)
  rw [hval] at hdel
  obtain ⟨hlow, hhigh⟩ := toInt_word_bounds (s.freg rs2)
  have hrange : |(((s.freg rs2).toInt : ℤ) : ℝ)| ≤ 2 ^ (31 : ℤ) := by
    rw [abs_le]
    constructor
    · exact_mod_cast hlow
    · exact_mod_cast hhigh.le
  exact hdel.1 (hrange.trans ((formatOf_proper d).two_zpow_le_largest (by have := emax_ge d; omega)))

/-- An operation on two operands that is invalid on them. -/
theorem invalid_two {op : FpNum → FpNum → Exact} (h : fpAnswer fn s rs1 rs2 = some (s.arithTwo fn d rs1 rs2 op))
    (h1 : s.operandNum d rs1 ≠ .unnormal) (h2 : s.operandNum d rs2 ≠ .unnormal)
    (hop : op (s.operandNum d rs1) (s.operandNum d rs2) = .nan true) : InvalidAnswer s fn rs1 rs2 d := by
  have hans := answers_two hau h h1 h2
  rw [hop] at hans
  exact hans.invalid

/-- The invalid sums, differences, products and quotients (R448). -/
theorem invalid_operations {add sub mul div : FpFn}
    (hadd : fpAnswer add s rs1 rs2 = some (s.arithTwo add d rs1 rs2 (exactAdd s.fpu.fsr.rd)))
    (hsub : fpAnswer sub s rs1 rs2 = some (s.arithTwo sub d rs1 rs2 (exactSub s.fpu.fsr.rd)))
    (hmul : fpAnswer mul s rs1 rs2 = some (s.arithTwo mul d rs1 rs2 exactMul))
    (hdiv : fpAnswer div s rs1 rs2 = some (s.arithTwo div d rs1 rs2 exactDiv)) :
    let a := s.operandNum d rs1
    let b := s.operandNum d rs2
    (∀ p, a = .inf p → b = .inf (!p) → InvalidAnswer s add rs1 rs2 d) ∧
    (∀ p, a = .inf p → b = .inf p → InvalidAnswer s sub rs1 rs2 d) ∧
    (∀ p q, (a = .inf p ∧ b = .zero q) ∨ (a = .zero p ∧ b = .inf q) → InvalidAnswer s mul rs1 rs2 d) ∧
    (∀ p q, (a = .inf p ∧ b = .inf q) ∨ (a = .zero p ∧ b = .zero q) → InvalidAnswer s div rs1 rs2 d) := by
  intro a b
  have key {fn : FpFn} {op : FpNum → FpNum → Exact} (h : fpAnswer fn s rs1 rs2 = some (s.arithTwo fn d rs1 rs2 op))
      {x y : FpNum} (hx : a = x) (hy : b = y) (hxu : x ≠ .unnormal) (hyu : y ≠ .unnormal) (hop : op x y = .nan true) :
      InvalidAnswer s fn rs1 rs2 d :=
    invalid_two hau h (ne_of_eq_of_ne hx hxu) (ne_of_eq_of_ne hy hyu) ((congrArg₂ op hx hy).trans hop)
  refine ⟨fun p ha hb => key hadd ha hb nofun nofun ?_, fun p ha hb => key hsub ha hb nofun nofun ?_,
    fun p q h => ?_, fun p q h => ?_⟩
  · cases p <;> rfl
  · cases p <;> rfl
  · rcases h with ⟨ha, hb⟩ | ⟨ha, hb⟩ <;> exact key hmul ha hb nofun nofun rfl
  · rcases h with ⟨ha, hb⟩ | ⟨ha, hb⟩ <;> exact key hdiv ha hb nofun nofun rfl

end Delivered

/-- Settles O60: each operation answers with an exact result that is the real number asked for (`exactAdd_stands` and its
like), and an exact result is delivered as that number (`Answers.delivered`). -/
theorem arithmeticIsCorrectlyRounded : Obligations.ArithmeticIsCorrectlyRounded := by
  unfold Obligations.ArithmeticIsCorrectlyRounded
  intro s rs1 rs2 hau hrp
  have add {fn : FpFn} {d : Dest} (h : fpAnswer fn s rs1 rs2 = some (s.arithTwo fn d rs1 rs2 (exactAdd s.fpu.fsr.rd)))
      (ha : (s.operandNum d rs1).isNumber) (hb : (s.operandNum d rs2).isNumber) :=
    (answers_two hau h ha.not_unnormal hb.not_unnormal).delivered hau hrp (exactAdd_stands ha hb _)
  have sub {fn : FpFn} {d : Dest} (h : fpAnswer fn s rs1 rs2 = some (s.arithTwo fn d rs1 rs2 (exactSub s.fpu.fsr.rd)))
      (ha : (s.operandNum d rs1).isNumber) (hb : (s.operandNum d rs2).isNumber) :=
    (answers_two hau h ha.not_unnormal hb.not_unnormal).delivered hau hrp (exactSub_stands ha hb _)
  have mul {fn : FpFn} {d : Dest} (h : fpAnswer fn s rs1 rs2 = some (s.arithTwo fn d rs1 rs2 exactMul))
      (ha : (s.operandNum d rs1).isNumber) (hb : (s.operandNum d rs2).isNumber) :=
    (answers_two hau h ha.not_unnormal hb.not_unnormal).delivered hau hrp (exactMul_stands ha hb)
  refine ⟨fun c hc => ?_, fun c hc => ?_, fun c hc => ?_, fun c hc => ?_, fun c hc => ?_, fun c hc => ?_⟩ <;>
    simp only [List.mem_cons, List.not_mem_nil, or_false] at hc
  · rcases hc with rfl | rfl | rfl | rfl | rfl | rfl | rfl | rfl | rfl
    · exact add rfl
    · exact add rfl
    · exact add rfl
    · exact sub rfl
    · exact sub rfl
    · exact sub rfl
    · exact mul rfl
    · exact mul rfl
    · exact mul rfl
  · rcases hc with rfl | rfl | rfl <;> exact division_delivered hau hrp rfl
  · rcases hc with rfl | rfl | rfl <;> exact squareRoot_delivered hau hrp rfl
  · rcases hc with rfl | rfl | rfl | rfl | rfl | rfl <;> exact conversion_delivered hau hrp rfl
  · rcases hc with rfl | rfl | rfl <;> exact integer_rounded hau hrp rfl
  · rcases hc with rfl | rfl | rfl <;> exact invalid_operations hau rfl rfl rfl rfl

end Sys2Proof.Machine

/-! ## Resets (O11, O10, O13)

A reset trap is at most two register writes in the window below, then fixed values; error_mode and reset_mode begin a step with a
new draw of free values only. -/

namespace Sys2Proof.Machine

/-! ### The steps of error_mode and reset_mode -/

theorem step_of_error {s : State} (hi : s.iu = .error) (hc : s.coming = []) : step s = .next s.ticked.errorCycle := by
  have hb : s.beginStep = s.ticked := State.beginStep_other (by simp [hi]) hc
  have hiu : s.ticked.iu = .error := hi
  simp [step, hb, hiu]

theorem step_of_reset {s : State} (hi : s.iu = .reset) (hc : s.coming = []) : step s = .next s.ticked.resetCycle := by
  have hb : s.beginStep = s.ticked := State.beginStep_other (by simp [hi]) hc
  have hiu : s.ticked.iu = .reset := hi
  simp [step, hb, hiu]

/-- Where reset is requested a step enters reset_mode, or stays in it (R570). -/
theorem step_resetRequested {s : State} (hr : s.inputs.resetIn = true) (hc : s.coming = []) (hq : s.quiet)
    (hu : s.unitsSequential) : step s = .next (if s.iu = .reset then s.ticked else s.ticked.enterReset) := by
  have hr' : s.ticked.inputs.resetIn = true := hr
  cases hi : s.iu with
  | execute =>
    have hb : s.beginStep = s.ticked := State.beginStep_quiet hi hc hq hu
    rw [step_of_execute (by rw [hb]; exact hi), hb]
    simp [State.executeCycle, hr']
  | error => simp [step_of_error hi hc, State.errorCycle, hr']
  | reset => simp [step_of_reset hi hc, State.resetCycle, hr']

/-- Settles O10: reset_mode is entered from the other two modes, and in reset_mode the invariant has the FPU in it already. -/
theorem resetRequestEntersResetMode : Obligations.ResetRequestEntersResetMode := by
  unfold Obligations.ResetRequestEntersResetMode
  intro s hr hc hq hu hinv
  rw [step_resetRequested hr hc hq hu]
  by_cases hi : s.iu = .reset
  · have hpb : s.pbError = false := by
      rw [Bool.eq_false_iff, Ne, (hinv hi).pb_error, hi]
      decide
    rw [if_pos hi]
    exact ⟨s.ticked, rfl, hi, (hinv hi).fpu_reset.2 hi, hpb, fun _ _ => rfl, fun _ => rfl, rfl⟩
  · rw [if_neg hi]
    exact ⟨s.ticked.enterReset, rfl, rfl, rfl, rfl, fun _ _ => rfl, fun _ => rfl, rfl⟩

/-! ### The reset trap -/

/-- A register written or not. -/
def State.setRegIf (s : State) (c : Bool) (w : BitVec 5) (n : Reg) (v : Word) : State := if c then s.setRegIn w n v else s

section SetRegIf
variable (s : State) (c : Bool) (w : BitVec 5) (n : Reg) (v : Word)

theorem State.setRegIf_cfg : (s.setRegIf c w n v).cfg = s.cfg := by
  cases c with
  | false => rfl
  | true => exact s.setRegIn_cfg w n v

theorem State.setRegIf_kept : RegsKeptBut s (s.setRegIf c w n v) w n := by
  cases c with
  | false => exact fun _ _ _ => rfl
  | true => exact s.setRegIn_kept w n v

theorem State.setRegIf_same {n : Reg} (hn : n ≠ 0) :
    (s.setRegIf c w n v).regIn w n = s.regIn w n ∨ (s.setRegIf c w n v).regIn w n = v := by
  cases c with
  | false => exact .inl rfl
  | true => exact .inr ((s.setRegIn_holds w n v).trans (if_neg hn))

end SetRegIf

/-- Of two windowed registers of a window, one odd and one even, neither is the other's cell: the number of cells is even. -/
theorem not_sameCell_of_parity (cfg : Params) (w : BitVec 5) {n m : Reg} (h8 : 8 ≤ n.toNat)
    (hpar : n.toNat % 2 ≠ m.toNat % 2) : ¬ sameCell cfg w n w m := by
  rw [sameCell, if_neg (by omega)]
  rintro ⟨hm, hcell⟩
  have hval := congrArg Fin.val hcell
  simp only [windowCell] at hval
  have hmod (x : Nat) : x % (16 * nwindows cfg) % 2 = x % 2 :=
    Nat.mod_mod_of_dvd x (Dvd.dvd.mul_right (by decide) _)
  have hvalpar := congrArg (· % 2) hval
  simp only [hmod] at hvalpar
  omega

/-- The register writes of a reset trap, each of which may happen or not (D9). -/
def State.resetLinks (s : State) : State :=
  let w := windowBelow s.cfg s.psr.cwp
  (s.setRegIf (s.freeBool .resetR17) w 17 s.pc).setRegIf (s.freeBool .resetR18) w 18 s.npc

theorem State.resetTrap_regIn (s : State) (w : BitVec 5) (n : Reg) : s.resetTrap.regIn w n = s.resetLinks.regIn w n := rfl

theorem State.resetLinks_kept (s : State) : RegsKeptBut2 s s.resetLinks (windowBelow s.cfg s.psr.cwp) 17 18 := by
  intro w n h17 h18
  rw [State.resetLinks, State.setRegIf_kept _ _ _ 18 _ w n (by rwa [State.setRegIf_cfg])]
  exact s.setRegIf_kept _ _ 17 _ w n h17

theorem State.resetLinks_r17 (s : State) :
    let w := windowBelow s.cfg s.psr.cwp
    s.resetLinks.regIn w 17 = s.regIn w 17 ∨ s.resetLinks.regIn w 17 = s.pc := by
  intro w
  rw [State.resetLinks, State.setRegIf_kept _ _ _ 18 _ _ 17 (not_sameCell_of_parity _ _ (by decide) (by decide))]
  exact s.setRegIf_same _ w s.pc (by decide)

theorem State.resetLinks_r18 (s : State) :
    let w := windowBelow s.cfg s.psr.cwp
    s.resetLinks.regIn w 18 = s.regIn w 18 ∨ s.resetLinks.regIn w 18 = s.npc := by
  intro w
  rw [← s.setRegIf_kept (s.freeBool .resetR17) w 17 s.pc w 18 (not_sameCell_of_parity _ _ (by decide) (by decide))]
  exact State.setRegIf_same _ _ w s.npc (by decide)

/-- The reset trap is taken as R572 and R573 have it, whatever the free choices. -/
theorem resetTrap_taken (s : State) : ResetTaken s s.resetTrap := by
  refine ⟨rfl, (ite_eq_or_eq _ _ _).symm, (ite_eq_or_eq _ _ _).symm, s.resetLinks_r17, s.resetLinks_r18, s.resetLinks_kept,
    rfl, ?frame⟩
  case frame =>
    unfold State.resetTrap
    cases s.freeBool .resetR17 <;> cases s.freeBool .resetR18 <;> rfl

/-- Settles O11: both modes end in the reset trap (`resetTrap_taken`). -/
theorem resetTrapState : Obligations.ResetTrapState := by
  unfold Obligations.ResetTrapState
  refine ⟨fun s hi hr hc => ?_, fun s hi hr hc hresets => ?_⟩
  · have hcycle : s.ticked.resetCycle = s.ticked.resetTrap := if_neg (by simpa [State.ticked] using hr)
    rw [step_of_reset hi hc, hcycle]
    exact ⟨_, rfl, resetTrap_taken s.ticked⟩
  · have hcycle : s.ticked.errorCycle = s.ticked.resetTrap := by
      simp [State.errorCycle, State.ticked, hr, hresets]
    rw [step_of_error hi hc, hcycle]
    exact ⟨_, rfl, resetTrap_taken s.ticked⟩

theorem Fpu.consistent_reset : State.reset.fpu.consistent State.reset.cfg :=
  ⟨Nat.zero_le _, nofun, nofun, by decide, fun _ _ => rfl⟩

/-- Settles O13: memory is empty, nothing is in flight, PC = 0, nPC = 4, and both units execute. -/
theorem resetStateHasInvariant : Obligations.ResetStateHasInvariant := by
  unfold Obligations.ResetStateHasInvariant
  have hpc : wordAligned State.reset.pc := by unfold wordAligned; decide
  exact ⟨State.reset_mem_wf, hpc, wordAligned_add_four hpc, nwindows_pos _, by unfold validMask; decide, nofun,
    Fpu.consistent_reset, ⟨nofun, nofun⟩, ⟨nofun, nofun⟩, ⟨nofun, nofun⟩⟩

end Sys2Proof.Machine

/-! ## Branch couples (O35)

Directly after a conditional branch a transfer is an advance whose two program counters are free word addresses; what an
instruction writes besides is as elsewhere. -/

namespace Sys2Proof.Machine

/-! ### Directly after a conditional branch (R584) -/

theorem State.freeAddress_wordAligned (s : State) (u : Use) : wordAligned (s.freeAddress u) := wordAligned_wordAddress _

/-- Directly after a conditional branch a transfer is an advance to free word addresses (R358 case 6). -/
theorem State.transfer_coupled {s : State} (hc : s.prev.conditional = true) (target : Word) (annul : Bool) :
    ∃ pc npc, wordAligned pc ∧ wordAligned npc ∧
      s.transfer target annul = (s.setAnnul (s.annul || annul)).advance.setPcs pc npc := by
  refine ⟨_, _, s.freeAddress_wordAligned .couplePc, s.freeAddress_wordAligned .coupleNpc, ?_⟩
  simp only [State.transfer, hc, if_true]
  cases annul with
  | false => rw [Bool.or_false]; rfl
  | true => rw [Bool.or_true]; rfl

/-- The same where nothing is annulled. -/
theorem State.transfer_coupled_false {s : State} (hc : s.prev.conditional = true) (target : Word) :
    ∃ pc npc, wordAligned pc ∧ wordAligned npc ∧ s.transfer target false = s.advance.setPcs pc npc := by
  obtain ⟨pc, npc, hpc, hnpc, htransfer⟩ := State.transfer_coupled hc target false
  exact ⟨pc, npc, hpc, hnpc, by rw [htransfer, Bool.or_false]; rfl⟩

theorem OnlyRegs.setPcs {s t : State} (h : OnlyRegs s t) (pc npc : Word) : OnlyRegs s (t.setPcs pc npc) :=
  congrArg (State.setPcs · pc npc) h

/-- A branch completes with its continuation open: PC and nPC some word addresses, the annul flag set by the annul bit or not,
and nothing else changed. -/
def BranchesOpen (s : State) (o : Out) (annul : Bool) : Prop :=
  ∃ t, o = .next t ∧ wordAligned t.pc ∧ wordAligned t.npc ∧ (t.annul = s.annul ∨ t.annul = (s.annul || annul)) ∧
    RegsKept s t ∧ MemKept s t ∧ OnlyPcs s t

section Branches
variable {s : State} (hc : s.prev.conditional = true)
include hc

theorem transfer_open (target : Word) (annul : Bool) : BranchesOpen s (.next (s.transfer target annul)) annul := by
  obtain ⟨pc, npc, hpc, hnpc, htransfer⟩ := State.transfer_coupled hc target annul
  exact ⟨_, congrArg _ htransfer, hpc, hnpc, .inr rfl, fun _ _ => rfl, fun _ => rfl, rfl⟩

/-- Taken, a branch on a condition annuls nothing; not taken, its annul bit decides (R321). -/
theorem branch_open (taken annul : Bool) (disp : BitVec 22) :
    BranchesOpen s (.next (s.branch taken annul disp)) annul := by
  obtain ⟨-, htaken⟩ | ⟨-, hnot⟩ := s.branch_cases taken annul disp
  · obtain ⟨t, ho, hpc, hnpc, hannul, hkept⟩ := transfer_open hc (branchTarget s.pc disp) false
    rw [htaken]
    exact ⟨t, ho, hpc, hnpc, .inl (by simpa using hannul), hkept⟩
  · rw [hnot]
    exact transfer_open hc (s.npc + 4) annul

theorem branchFcc_open (hready : s.fpReady) (values : List (BitVec 2)) (annul : Bool) (disp : BitVec 22) :
    BranchesOpen s (.next (s.branchFcc values annul disp)) annul := by
  rw [State.branchFcc, State.fpBranch_open (.inl hready)]
  exact branch_open hc _ annul disp

theorem branchCcc_open (hready : s.cpReady) (values : List (BitVec 2)) (annul : Bool) (disp : BitVec 22) :
    BranchesOpen s (.next (s.branchCcc values annul disp)) annul := by
  rw [State.branchCcc, State.cpGuard_ready hready]
  exact branch_open hc _ annul disp

/-- Every Bicc: always, never, or on a test of icc. -/
theorem integerBranches_open (annul : Bool) (disp : BitVec 22) :
    ∀ i ∈ [Instr.bn annul disp, .be annul disp, .ble annul disp, .bl annul disp, .bleu annul disp, .bcs annul disp,
      .bneg annul disp, .bvs annul disp, .ba annul disp, .bne annul disp, .bg annul disp, .bge annul disp,
      .bgu annul disp, .bcc annul disp, .bpos annul disp, .bvc annul disp], BranchesOpen s (exec i s) annul := by
  have branches (test : Icc → Bool) : BranchesOpen s (.next (s.branchIcc test annul disp)) annul :=
    branch_open hc _ annul disp
  have never : BranchesOpen s (.next (s.branchNever annul)) annul := transfer_open hc _ annul
  have always : BranchesOpen s (.next (s.branchAlways annul disp)) annul := transfer_open hc _ annul
  simp only [List.forall_mem_cons]
  exact ⟨never, branches iccEqual, branches iccLessEqual, branches iccLess, branches iccLessEqualUnsigned,
    branches iccCarrySet, branches iccNegative, branches iccOverflowSet, always, branches iccNotEqual,
    branches iccGreater, branches iccGreaterEqual, branches iccGreaterUnsigned, branches iccCarryClear,
    branches iccPositive, branches iccOverflowClear, List.forall_mem_nil _⟩

/-- Every FBfcc, the FPU ready: always, never, or on a set of the values of fcc. -/
theorem floatingBranches_open (hready : s.fpReady) (annul : Bool) (disp : BitVec 22) :
    ∀ i ∈ [Instr.fbn annul disp, .fbne annul disp, .fblg annul disp, .fbul annul disp, .fbl annul disp,
      .fbug annul disp, .fbg annul disp, .fbu annul disp, .fba annul disp, .fbe annul disp, .fbue annul disp,
      .fbge annul disp, .fbuge annul disp, .fble annul disp, .fbule annul disp, .fbo annul disp],
      BranchesOpen s (exec i s) annul := by
  have branches (values : List (BitVec 2)) : BranchesOpen s (.next (s.branchFcc values annul disp)) annul :=
    branchFcc_open hc hready values annul disp
  have guarded (body : State → State) (h : BranchesOpen s (.next (body s)) annul) :
      BranchesOpen s (.next (s.fpGuard fun s => s.fpHold waitCompare body)) annul := by
    rwa [State.fpBranch_open (.inl hready)]
  have never := guarded (·.branchNever annul) (transfer_open hc _ annul)
  have always := guarded (·.branchAlways annul disp) (transfer_open hc _ annul)
  simp only [List.forall_mem_cons]
  exact ⟨never, branches [1, 2, 3], branches [1, 2], branches [1, 3], branches [1], branches [2, 3], branches [2],
    branches [3], always, branches [0], branches [0, 3], branches [0, 2], branches [0, 2, 3], branches [0, 1],
    branches [0, 1, 3], branches [0, 1, 2], List.forall_mem_nil _⟩

/-- Every CBccc, the coprocessor ready: always, never, or on a set of the values of bp_CP_cc. -/
theorem coprocessorBranches_open (hready : s.cpReady) (annul : Bool) (disp : BitVec 22) :
    ∀ i ∈ [Instr.cbn annul disp, .cb123 annul disp, .cb12 annul disp, .cb13 annul disp, .cb1 annul disp,
      .cb23 annul disp, .cb2 annul disp, .cb3 annul disp, .cba annul disp, .cb0 annul disp, .cb03 annul disp,
      .cb02 annul disp, .cb023 annul disp, .cb01 annul disp, .cb013 annul disp, .cb012 annul disp],
      BranchesOpen s (exec i s) annul := by
  have branches (values : List (BitVec 2)) : BranchesOpen s (.next (s.branchCcc values annul disp)) annul :=
    branchCcc_open hc hready values annul disp
  have guarded (body : State → State) (h : BranchesOpen s (.next (body s)) annul) :
      BranchesOpen s (.next (s.cpGuard body)) annul := by rwa [State.cpGuard_ready hready]
  have never := guarded (·.branchNever annul) (transfer_open hc _ annul)
  have always := guarded (·.branchAlways annul disp) (transfer_open hc _ annul)
  simp only [List.forall_mem_cons]
  exact ⟨never, branches [1, 2, 3], branches [1, 2], branches [1, 3], branches [1], branches [2, 3], branches [2],
    branches [3], always, branches [0], branches [0, 3], branches [0, 2], branches [0, 2, 3], branches [0, 1],
    branches [0, 1, 3], branches [0, 1, 2], List.forall_mem_nil _⟩

/-- CALL or JMPL: r[rd] holds the instruction's address as elsewhere, and the continuation is open. -/
theorem links_open (hq : s.quiet) (u : Use) (rd : Reg) (target : Word) :
    ∃ t, Host.Outcome.next ((s.setReg u rd s.pc).transfer target false) = (.next t : Out) ∧ wordAligned t.pc ∧
      wordAligned t.npc ∧ Holds t s.psr.cwp rd s.pc ∧ RegsKeptBut s t s.psr.cwp rd ∧ MemKept s t ∧ OnlyRegs s t := by
  have hc' : (s.setReg u rd s.pc).prev.conditional = true := by simpa using hc
  obtain ⟨pc, npc, hpc, hnpc, htransfer⟩ := State.transfer_coupled_false hc' target
  obtain ⟨t, ht, -, hholds, hregs, hmem, honly⟩ := writesReg_of_quiet hq u rd s.pc
  cases ht
  exact ⟨_, congrArg _ htransfer, hpc, hnpc, hholds, hregs, hmem, honly.setPcs pc npc⟩

/-- RETT: the PSR is restored as elsewhere, and the continuation is open. -/
theorem restored_open (w : BitVec 5) (a : Word) :
    ∃ t, Host.Outcome.next ((s.restored w).transfer a false) = (.next t : Out) ∧ wordAligned t.pc ∧ wordAligned t.npc ∧
      t.psr = { s.psr with et := true, s := s.psr.ps, cwp := w } ∧ RegsKept s t ∧ MemKept s t ∧
      Completed { s with psr := t.psr, fetchOpen := !s.prev.jmpl } t := by
  have hc' : (s.restored w).prev.conditional = true := hc
  obtain ⟨pc, npc, hpc, hnpc, htransfer⟩ := State.transfer_coupled_false hc' a
  exact ⟨_, congrArg _ htransfer, hpc, hnpc, rfl, fun _ _ => rfl, fun _ => rfl, rfl⟩

end Branches

/-! ### The annulled member of a couple -/

/-- The skip goes on at word addresses, free or mechanical. -/
theorem State.skip_wordAligned {s : State} (hn : wordAligned s.npc) : wordAligned s.skip.pc ∧ wordAligned s.skip.npc := by
  unfold State.skip
  dsimp only
  split
  · exact ⟨s.freeAddress_wordAligned _, s.freeAddress_wordAligned _⟩
  · exact ⟨hn, wordAligned_add_four hn⟩

/-- The skip of a word that is no delayed control transfer is mechanical, whatever came before. -/
theorem State.skip_advanced_of_word {s : State} {w : Word} (hf : s.fetch.2 = some w) (hw : delayedTransfer w = false) :
    Advanced s s.skip := by
  simp [Advanced, State.skip, State.annulledCouple, hf, hw]

/-- Settles O35: every transfer goes through `State.transfer_coupled`; the skip through `State.skip_eq`. -/
theorem coupleAfterConditionalBranch : Obligations.CoupleAfterConditionalBranch := by
  unfold Obligations.CoupleAfterConditionalBranch
  refine ⟨fun s annul disp _ hc => ?branches, fun s disp rd rs1 src hq hc => ⟨?call, fun ha => ?jump, ?rett⟩,
    fun s k hi hr hcoming hq ha hu ho hstale _ hn hk => ?skip⟩
  case branches =>
    exact ⟨integerBranches_open hc annul disp, fun hready => floatingBranches_open hc hready annul disp,
      fun hready => coprocessorBranches_open hc hready annul disp⟩
  case call => exact links_open hc hq .link 15 (callTarget s.pc disp)
  case jump =>
    rw [exec_jmpl_quiet hq, aligned_true ha]
    exact links_open hc hq .rdWrite rd (s.address rs1 src)
  case rett =>
    intro w het hs hw ha
    rw [exec_rett_quiet hq rs1 src (w := w) rfl, het, hs, hw, aligned_true ha]
    exact restored_open hc w (s.address rs1 src)
  case skip =>
    have hb : s.beginStep = s.ticked := State.beginStep_quiet hi hcoming hq hu
    have hasi : s.ticked.fetchAsi = if s.psr.s then 9 else 8 := State.fetchAsi_quiet (s := s.ticked) hq ho
    have hf : s.ticked.fetch = (s.ticked, some (Memory.word s.mem k)) :=
      State.fetch_located (by rw [hasi]; exact hk) (by simp [State.ticked, hstale])
    have hstep : step s = .next s.ticked.skip := by
      rw [step_of_execute (by rw [hb]; exact hi), hb, State.executeCycle_annulled (s := s.ticked) hr ha]
    obtain ⟨hpc, hnpc⟩ := State.skip_wordAligned (s := s.ticked) hn
    have hframe := State.skip_eq (s := s.ticked) (by rw [hf])
    refine ⟨s.ticked.skip, hstep, hpc, hnpc, fun hw => State.skip_advanced_of_word (s := s.ticked) (by rw [hf]) hw, ?_⟩
    rw [hframe]
    simp [State.ticked, ho]

end Sys2Proof.Machine
